-- ==== Sys2Proof/Word.lean ====
section
/-! DEFINITION. The plain units of the manual: bytes, 16-bit words, 20-bit byte addresses and crossing times. -/

namespace Sys2Proof

/-- A byte: one character of a line, half a word of memory. -/
abbrev Byte := BitVec 8

/-- A word of memory is 16 bits (00_scope.md, Memory words). -/
abbrev Word := BitVec 16

/-- The byte address of an upstream access, 20 bits (R155). -/
abbrev Addr := BitVec 20

/-- A crossing time: milliseconds since the end of part reset (00_scope.md, Crossing time).
A run keeps it below `Config.runEnd` (R188). -/
abbrev Time := Nat

end Sys2Proof
end

