-- ==== Sys2Proof/Syntax.lean ====
section
/-! DEFINITION. The commands: one constructor of `Instr` for each row of spec/opcode_table.json, in the table's order. -/

namespace Sys2Proof

/-- The events and operations of the part (opcode_table.json). The operands are what the world brings with the event:
a character, a level, an address, the data memory returned. -/
inductive Instr where
  | partReset
  | runEndReset
  | partResetEnd
  | hostReset
  | slotStart
  /-- `brk`: the head line is in break as the window opens (R5). -/
  | replyWindowOpen (brk : Bool)
  | headReplyComplete (value : Byte) (framing noise : Bool)
  | replyWindowClose
  | headLineBreak
  | outcomeTake
  | handOver
  | overdueExpiry (slot : Fin 8)
  | restartTimeoutExpiry (slot : Fin 8)
  | deadlineExpiry (slot : Fin 8)
  | predictionGraceExpiry (slot : Fin 8)
  | computationStart
  | computationComplete
  | amberExpiry
  | redWarnExpiry
  | entryTravelLimitExpiry
  | clearanceSettleExpiry
  | clearanceLimitExpiry
  | exitTravelLimitExpiry
  | minClosedExpiry
  | raiseTravelLimitExpiry
  | testTravelLimitExpiry (boom : Fin 4)
  | reversalPauseExpiry (boom : Fin 4)
  | flashPhaseExpiry
  /-- `made`: the new raw level of contact input `input`, in the order of `Machine.upContact` and its neighbours (R102). -/
  | contactInputChange (input : Fin 16) (made : Bool)
  | contactSettleExpiry (input : Fin 16)
  | boomMaskEnd (boom : Fin 4)
  | lampCheckExpiry (item : Fin 8)
  | lampSenseChange (item : Fin 8) (lit : Bool)
  | linkCharacter (value : Byte) (lead framing : Bool)
  /-- `start`: the crossing time at which the line entered the space condition (R150). -/
  | linkBreak (start : Time)
  | pauseExpiry
  | longBreak
  | linkTimeout
  /-- The whole-frame rows carry the frame's body characters (R135). -/
  | poll (body : List Byte)
  | signallerAckFault (body : List Byte)
  | ackAll (body : List Byte)
  | restoreSection (body : List Byte)
  | signallerHoldClosed (body : List Byte)
  | signallerReleaseHold (body : List Byte)
  | releaseLocal (body : List Byte)
  | waiveClearance (body : List Byte)
  | permitMaint (body : List Byte)
  | withdrawPermit (body : List Byte)
  /-- A whole group with a good group check at group position `pos` of its frame; times in 100 ms units (R146). -/
  | setWarningGroup (pos : Fin 4) (entry : Byte) (warning margin : Word)
  | setWarning (body : List Byte)
  | status (body : List Byte)
  | frameRefusedKind (kind : Byte) (body : List Byte)
  | transmitFrameDone
  /-- Host accesses carry their byte address; `word` is the size (R155). -/
  | snapshot (addr : Addr) (word : Bool)
  /-- A trigger write: the word at `addr` with the row's kind in its low byte and `tag` in its high byte. -/
  | holdClosed (addr : Addr) (tag : Byte)
  | releaseHold (addr : Addr) (tag : Byte)
  | haltRestart (addr : Addr) (tag : Byte)
  | ackFault (addr : Addr) (tag : Byte)
  | enterMaint (addr : Addr) (tag : Byte)
  | leaveMaint (addr : Addr) (tag : Byte)
  | testOutput (addr : Addr) (tag : Byte)
  | reloadSettings (addr : Addr) (tag : Byte)
  | ringConsumerWrite (addr : Addr) (value : Word)
  | outboxProducerWrite (addr : Addr) (value : Word)
  /-- A byte write carries its byte in the low half of `data`. -/
  | hostWrite (addr : Addr) (word : Bool) (data : Word)
  /-- `data`: what memory returned for a read (a byte in the low half); not used for a write. -/
  | upstreamAccessComplete (data : Word)
  | portGrant
  | outboxFetchStart
  /-- The 32 bytes that memory returned for the record slot. -/
  | outboxFetchComplete (record : List Byte)
  | outboxConsumerWriteComplete
  | ringWriteStart
  | ringRecordWriteComplete
  | ringProducerWriteComplete
  | ringHeaderWriteComplete
  | settingWordReadComplete (data : Word)
  | loadCompletion (data : Word)
  | retryExpiry
  | hostRead (addr : Addr) (word : Bool)
  | headReplyCharacter (value : Byte) (framing noise : Bool)
  | linkBreakEnd
  deriving DecidableEq, Repr

end Sys2Proof
end

