-- ==== Sys2Proof/Decode.lean ====
section
/-! DEFINITION. The commands that words spell. -/

namespace Sys2Proof

/-- No row of spec/opcode_table.json gives bits: the part is driven by events, not by instruction words, so no word
spells a command (log 34). -/
def decodeTableWord (_nbits _w : Nat) : Option Instr := none

end Sys2Proof
end

