-- ==== Sys2Proof/Config.lean ====
section
/-! DEFINITION. What the manual fixes once for every part (durations, limits, capacities), and the values it leaves open. -/

namespace Sys2Proof.Config

/-- Crossing time at which a run ends by part reset (R188). -/
def runEnd : Nat := 0xFFFFFF00

/-- Length of a head-line slot, end of the poll and latest end of the reply window, from slot start (R1). -/
def slotLength : Nat := 12
/-- The poll takes the first 2 ms of the slot (R1). -/
def pollEnd : Nat := 2
/-- The reply window closes 10 ms into the slot (R1). -/
def windowEnd : Nat := 10
/-- A head reply is seven characters (R194). -/
def replyLength : Nat := 7
/-- Largest plausible delta (R19). -/
def plausibilityLimit : Nat := 64
/-- Largest section count (R23). -/
def countLimit : Nat := 255
/-- Prediction grace (R68). -/
def grace : Nat := 250
/-- Length of one computation (R64). -/
def computation : Nat := 50
/-- Clamp of the time to arrival (R64). -/
def arrivalClamp : Nat := 600000
/-- Capacity of the prediction request queue (R63). -/
def requestCapacity : Nat := 4
/-- Reversal pause of a boom drive (R71, R92). -/
def reversalPause : Nat := 500
/-- Contact settle time, and the length of a boom mask (R102, R103). -/
def contactSettle : Nat := 100
/-- Lamp settle time (R107). -/
def lampSettle : Nat := 200
/-- Pause timer of the link parser (R137). -/
def pauseLimit : Nat := 500
/-- A break held this long resyncs the link (R150). -/
def longBreak : Nat := 1000
/-- Longest body of a link frame (R135). -/
def bodyLimit : Nat := 60
/-- Retry timer of the Setting Loader (R187). -/
def retry : Nat := 10000
/-- Capacity of the event staging queue (R175). -/
def stagingCapacity : Nat := 32
/-- A waiting internal claim with this wait count is due (R163). -/
def dueCount : Nat := 4
/-- Places of the report queue for host records (R123). -/
def hostAllotment : Nat := 4
/-- Address of the setting block (R182). -/
def blockBase : Nat := 0xFFE00

/-- Free value (log 15): the byte that stands for RESTORE in the cause of a SECTION_STATE record; the manual gives none. -/
opaque restoreCode : Byte
/-- Free value (log 16): the 24 bits written for a stamp whose time divided by 256 is FFFFFFh or more. -/
opaque lateStamp : Nat → BitVec 24
/-- Free value (log 17): the wheels byte of a train report or record whose total passes 255. -/
opaque wideWheels : Nat → Byte

end Sys2Proof.Config
end

