-- ==== Sys2Proof/Machine/State.lean ====
section
/-! DEFINITION. The state of the part as plain data, block by block, and the state in part reset. -/

namespace Sys2Proof.Machine

/-! ## Names of the site (00_scope.md, The site) -/

/-- Axle-counting heads H1 to H8 are 0 to 7. -/
abbrev Head := Fin 8
/-- Sections S1 to S6 are 0 to 5. -/
abbrev Sec := Fin 6
/-- Record slots 0 to 7 (R35). -/
abbrev Slot := Fin 8
/-- Booms B0 to B3. -/
abbrev Boom := Fin 4
/-- Lamp items in fault-point order: six road lamps, then D1 and D2 (R107). -/
abbrev Lamp := Fin 8
/-- Fault points FP0 to FP31. -/
abbrev Point := Fin 32

inductive Track where | t1 | t2
  deriving DecidableEq, Repr

inductive Side where | a | b
  deriving DecidableEq, Repr

/-- Direction of movement along a track: AB from side A toward side B. -/
inductive Dir where | ab | ba
  deriving DecidableEq, Repr

/-! ## Settings (R181) -/

/-- Lengths of the sequence timers, in the order of the setting block (R71, 12_formats.md). -/
structure Timers where
  amber : Nat
  redWarn : Nat
  entryLimit : Nat
  exitLimit : Nat
  raiseLimit : Nat
  clearSettle : Nat
  clearLimit : Nat
  minClosed : Nat
  flashPeriod : Nat
  deriving DecidableEq, Repr

/-- The settings in force other than the warning table and the windows, which their own blocks hold (R181). -/
structure Settings where
  address : Byte
  /-- Bit rate code: 0 for 1,200 to 4 for 19,200 (12_formats.md). -/
  rate : Nat
  linkTimeout : Nat
  spacing : Nat
  trainGap : Nat
  restartTimeout : Nat
  secondWindow : Nat
  timers : Timers
  deriving DecidableEq, Repr

/-! ## Head Line Engine (01_the_head_line.md) -/

inductive HeadState where | unknown | settling | active | missing | failed
  deriving DecidableEq, Repr

/-- The outcome of a transaction (R4, R5). -/
inductive TxnOutcome where | silent | garbled | wrongHead | broken | good
  deriving DecidableEq, Repr

inductive TxnKind where | read | clearHalf
  deriving DecidableEq, Repr

/-- The cause of a change of head state (R16). -/
inductive HeadCause where | silent | garbled | wrongHead | broken | good | sensorFault | implausible
  deriving DecidableEq, Repr

/-- One head record (R8). -/
structure HeadRec where
  state : HeadState
  heldAB : Byte
  heldBA : Byte
  failCount : Nat
  goodCount : Nat
  lastReply : Option Time
  lastHalf : Bool
  clearPending : Bool
  deriving DecidableEq, Repr

/-- What a GOOD outcome adds to the outcome record (R6). -/
structure GoodReply where
  ab : Byte
  ba : Byte
  transit : Word
  sensorFault : Bool
  halfNow : Bool
  halfBefore : Bool
  time : Time
  deriving DecidableEq, Repr

/-- The outcome record offered to the Section Counter (R6); `reply` is present for GOOD. -/
structure OutcomeRec where
  head : Head
  kind : TxnKind
  outcome : TxnOutcome
  stateBefore : HeadState
  heldAB : Byte
  heldBA : Byte
  reply : Option GoodReply
  deriving DecidableEq, Repr

/-- What the head line is doing: idle between transactions, sending the poll, or the reply window open (R1). -/
inductive LinePhase where | idle | poll | window
  deriving DecidableEq, Repr

structure HeadLine where
  recs : Vector HeadRec 8
  phase : LinePhase
  /-- The head polled in the present or latest slot. -/
  head : Head
  kind : TxnKind
  slotStart : Time
  /-- Characters of the reply received in the window, and whether one had a framing error or noise flag (R3). -/
  chars : List Byte
  charBad : Bool
  offered : Option OutcomeRec
  /-- The poll frame last sent (R2, R194). -/
  pollFrame : List Byte
  deriving DecidableEq, Repr

/-! ## Section Counter (02_section_counting.md) -/

inductive SecState where | clear | occupied | disturbed | restoring
  deriving DecidableEq, Repr

inductive Reason where | headFailed | halfWheel | implausible | negative | listFull | startup
  deriving DecidableEq, Repr

/-- One section entry (R23). -/
structure SecRec where
  state : SecState
  count : Nat
  swept : Bool
  reason : Option Reason
  deriving DecidableEq, Repr

/-- A movement (R20). Its track, From and To follow from the head and the direction by R17. -/
structure Movement where
  head : Head
  dir : Dir
  wheels : Nat
  replyTime : Time
  transit : Word
  deriving DecidableEq, Repr

structure Sections where
  table : Vector SecRec 6
  /-- The hand-over, of at most one movement (R18). -/
  movement : Option Movement
  deriving DecidableEq, Repr

/-! ## Approach Tracker (03_the_approach_list.md) -/

inductive Status where | approaching | stopped | crossing | departing
  deriving DecidableEq, Repr

/-- A closing deadline with its reached flag (R35). -/
structure Deadline where
  time : Time
  reached : Bool
  deriving DecidableEq, Repr

/-- One train record (R35), with its running timers (R51, R68). -/
structure TrainRec where
  gen : Byte
  track : Track
  entrySide : Side
  wEntry : Nat
  wIsland : Nat
  wExit : Nat
  heading : Dir
  status : Status
  strikeIn : Option Time
  lastEntry : Option Time
  approach : Option Time
  seq : Byte
  predicted : Option Time
  speedUnknown : Bool
  deadline : Option Deadline
  warning : Nat
  margin : Nat
  restartReq : Bool
  proceedShown : Bool
  proceedTime : Option Time
  overdueRep : Bool
  overrunRep : Bool
  unprotRep : Bool
  /-- The prediction grace is running, to 250 ms after strike-in (R68). -/
  graceOn : Bool
  /-- Expiry time of the restart timeout while it runs (R51). -/
  restartDue : Option Time
  deriving DecidableEq, Repr

structure Tracker where
  recs : Vector (Option TrainRec) 8
  gens : Vector Byte 8
  /-- Record slots of T1 and of T2 in list order from the A end (R37). -/
  order1 : List Slot
  order2 : List Slot
  deriving DecidableEq, Repr

/-! ## Arrival Predictor (04_arrival_prediction.md) -/

/-- One warning-table entry (R57): metres and milliseconds. The halt flag is fixed by position. -/
structure WarnEntry where
  distance : Nat
  warning : Nat
  margin : Nat
  deriving DecidableEq, Repr

/-- A prediction request with its operands (R62). -/
structure Request where
  slot : Slot
  gen : Byte
  seq : Byte
  distance : Nat
  spacing : Nat
  transit : Nat
  replyTime : Time
  deriving DecidableEq, Repr

structure Computing where
  req : Request
  start : Time
  deriving DecidableEq, Repr

structure Predictor where
  table : Vector WarnEntry 4
  queue : List Request
  unit : Option Computing
  deriving DecidableEq, Repr

/-! ## Sequence Controller (05_the_closing_sequence.md) -/

/-- The crossing states, in R75's order. -/
inductive Crossing where
  | starting | startClose | opened | amber | redWarn | entryLower | clearance | exitLower | closed | raising | test
  deriving DecidableEq, Repr

/-- Kind and key of a demand (R72). -/
inductive DemandKey where
  | record (slot : Slot)
  | section_ (sec : Sec)
  | localHold
  | signallerHold
  deriving DecidableEq, Repr

/-- The demand set: for each kind and key the raising time of the demand that stands (R72). -/
structure DemandSet where
  records : Vector (Option Time) 8
  sections : Vector (Option Time) 6
  localHold : Option Time
  signallerHold : Option Time
  deriving DecidableEq, Repr

inductive DriveOut where | raise | hold | lower
  deriving DecidableEq, Repr

inductive Target where | raise | lower
  deriving DecidableEq, Repr

/-- A boom drive (R92). -/
structure Drive where
  output : DriveOut
  target : Target
  pauseDue : Option Time
  deriving DecidableEq, Repr

inductive LampCmd where | dark | lit | flash
  deriving DecidableEq, Repr

/-- The running flasher (R94). The phase timer's expiry is held in half milliseconds, so that half an odd flash period is
exact (log 18). -/
structure Flasher where
  right : Bool
  dueHalves : Nat
  deriving DecidableEq, Repr

/-- The test settings of TEST (R98, R99). -/
structure TestSet where
  lamps : Vector LampCmd 6
  audible : Vector Bool 2
  booms : Vector Target 4
  deriving DecidableEq, Repr

structure Sequence where
  state : Crossing
  /-- Crossing time of the entry to the state (R101). -/
  entered : Time
  demands : DemandSet
  amberDue : Option Time
  redWarnDue : Option Time
  entryDue : Option Time
  settleDue : Option Time
  clearLimitDue : Option Time
  exitDue : Option Time
  minClosedDue : Option Time
  raiseDue : Option Time
  testDue : Vector (Option Time) 4
  drives : Vector Drive 4
  lamps : Vector LampCmd 8
  audible : Vector Bool 2
  flasher : Option Flasher
  test : Option TestSet
  proven : Bool
  permission : Bool
  deriving DecidableEq, Repr

/-! ## Proving Unit and Fault Supervisor (06_proving_and_fault_points.md) -/

/-- A contact input: levels are true for made (R102). -/
structure Contact where
  raw : Bool
  settled : Bool
  due : Option Time
  deriving DecidableEq, Repr

inductive BoomCause where | notDownAtLimit | notUpAtLimit | leftDown | conflict | broken
  deriving DecidableEq, Repr

inductive LampCause where | seenDark | seenLit
  deriving DecidableEq, Repr

/-- A lamp item as the Proving Unit sees it (R107, R108). -/
structure LampProof where
  /-- The current-sense input: true for LIT. -/
  sense : Bool
  checkDue : Option Time
  /-- The check timer has expired since the last change of the item's command. -/
  expired : Bool
  fault : Option LampCause
  deriving DecidableEq, Repr

structure Proving where
  contacts : Vector Contact 16
  /-- End of each boom's contact mask (R103). -/
  masks : Vector (Option Time) 4
  /-- Each boom's condition with its first cause (R105). -/
  booms : Vector (Option BoomCause) 4
  lamps : Vector LampProof 8
  deriving DecidableEq, Repr

/-- The cause of an arising (R111). -/
inductive Cause where
  | lamp (c : LampCause)
  | boom (c : BoomCause)
  | head (c : HeadCause)
  | section_ (c : Reason)
  | detectorFault
  | clearanceLimit
  deriving DecidableEq, Repr

inductive FaultState where | healthy | faulty | faultyAcked | clearedUnacked
  deriving DecidableEq, Repr

/-- One fault entry (R112). Its class is fixed for the point (R116). -/
structure FaultEntry where
  state : FaultState
  count : Nat
  firstRaised : Option Time
  lastChange : Option Time
  cause : Option Cause
  inMaint : Bool
  deriving DecidableEq, Repr

/-- The crossing mode, in the coding of 12_formats.md. -/
inductive Mode where | normal | failed | maintenance
  deriving DecidableEq, Repr

structure Faults where
  table : Vector FaultEntry 32
  /-- The present value of each point's condition (R111). -/
  present : Vector Bool 32
  mode : Mode
  deriving DecidableEq, Repr

/-! ## Report Queue (07_reports.md) -/

inductive Class where | urgent | alert | info
  deriving DecidableEq, Repr

/-- The set of train report kinds (R55). -/
structure Kinds where
  overdue : Bool
  overrun : Bool
  unprotected : Bool
  lost : Bool
  deriving DecidableEq, Repr

/-- The content of a report, by origin (R122): FAULT R116, CROSSING R120, TRAIN R55, HOST R131. The key is part of it. -/
inductive Content where
  | fault (point : Point) (state : FaultState) (count : Nat) (first last : Option Time) (cause : Option Cause)
  | crossing (state : Crossing) (mode : Mode) (proven : Bool) (unhealthy : Nat) (time : Time)
  /-- `status` is none for REMOVED. -/
  | train (slot : Slot) (gen : Byte) (track : Track) (side : Side) (kinds : Kinds) (status : Option Status) (wheels : Nat) (time : Time)
  | host (ref : Word) (text : List Byte) (index : Nat) (time : Time)
  deriving DecidableEq, Repr

/-- The class and content an entry went into air with (R122, R141). -/
structure Sent where
  content : Content
  cls : Class
  deriving DecidableEq, Repr

/-- A report entry (R122): in air exactly when `sent` is present. -/
structure Entry where
  content : Content
  cls : Class
  sent : Option Sent
  changed : Bool
  deriving DecidableEq, Repr

inductive ReaderState where | idle | fetching | writing
  deriving DecidableEq, Repr

/-- The Outbox Reader (R128). `discard`: the access granted at an apply is to be discarded at its completion. -/
structure Outbox where
  consumer : Nat
  shadow : Nat
  state : ReaderState
  discard : Bool
  deriving DecidableEq, Repr

/-! ## Signaller Link Unit (08_the_signaller_link.md) -/

/-- A break on the signaller line: when it began and whether it has resynced the link (R150). -/
structure LineBreak where
  start : Time
  resynced : Bool
  deriving DecidableEq, Repr

/-- The frame being sent and the bit rate it is sent at (R139, R153). -/
structure Sending where
  frame : List Byte
  rate : Nat
  deriving DecidableEq, Repr

structure Link where
  /-- The parser: none is HUNT, some is RECEIVING with the characters received after the lead (R135). -/
  rx : Option (List Byte)
  /-- The groups of the SET_WARNING in reception that were applied (R146). -/
  groups : Vector Bool 4
  pauseDue : Option Time
  /-- The toggle t: true for 1 (R140). -/
  toggle : Bool
  lost : Bool
  timerDue : Option Time
  lastWhole : Option Time
  lostAt : Option Time
  brk : Option LineBreak
  sending : Option Sending
  buffered : Option (List Byte)
  deriving DecidableEq, Repr

/-! ## Pass-Through Unit and Memory Port Arbiter (09_pass_through_and_windows.md) -/

inductive WinKind where | image | command | eventRing | outbox | guarded
  deriving DecidableEq, Repr

/-- A window: base and length in units of 256 bytes, the length 1 to 256 (R157). -/
structure Window where
  kind : WinKind
  base : Nat
  units : Nat
  deriving DecidableEq, Repr

/-- An access on the downstream port: its address, direction, size in bytes and the bytes written (R156). -/
structure MemAccess where
  addr : Nat
  write : Bool
  bytes : Nat
  data : List Byte
  deriving DecidableEq, Repr

/-- An upstream access (R155). -/
structure HostAccess where
  addr : Addr
  write : Bool
  word : Bool
  data : Word
  deriving DecidableEq, Repr

/-- What a passed access updates at its completion (R161, R169). -/
inductive Effect where
  | none
  /-- An argument word of a command slot: argument B or A, and for a byte write whether it is the high byte. -/
  | argument (slot : Slot) (isB : Bool) (half : Option Bool)
  /-- An accepted consumer-index write, with the window it was decided against (R166). -/
  | ringConsumer (win : Window) (value : Nat)
  | outboxProducer (win : Window) (value : Nat)
  deriving DecidableEq, Repr

/-- Where the upstream access in hand stands: held undecided in STARTING, waiting for the port, or granted (R155). -/
inductive UpPhase where | held | waiting | granted
  deriving DecidableEq, Repr

structure Upstream where
  acc : HostAccess
  phase : UpPhase
  effect : Effect
  deriving DecidableEq, Repr

/-- The answer to a host access (R155); COMPLETE carries a read's data. -/
inductive Answer where
  | complete (data : Word)
  | fault
  deriving DecidableEq, Repr

inductive Claimant where | upstream | ring | loader | outbox
  deriving DecidableEq, Repr

/-- A waiting internal claim with its wait count (R163). -/
structure Claim where
  acc : MemAccess
  wait : Nat
  deriving DecidableEq, Repr

/-- The access in progress on the port. -/
structure Busy where
  who : Claimant
  acc : MemAccess
  deriving DecidableEq, Repr

/-! ## Command Admission, Image and Event Ring (10_commands_image_and_event_ring.md) -/

inductive CmdResult where | none | accepted | badKind | badArg | wrongState | notSeen | notPermitted | busy
  deriving DecidableEq, Repr

/-- A command slot: argument shadows and outcome record (R169). -/
structure CmdSlot where
  argA : Word
  argB : Word
  result : CmdResult
  kind : Byte
  tag : Byte
  time : Option Time
  deriving DecidableEq, Repr

/-- The Image Unit (R172): the snapshot is none while invalid. -/
structure ImageUnit where
  serial : Nat
  snapshot : Option (List Byte)
  deriving DecidableEq, Repr

inductive LoadKind where | first | retry | reload
  deriving DecidableEq, Repr

/-- Why a block is invalid (R183). -/
inductive BadBlock where | marker | version | length | check | range | windows | warning
  deriving DecidableEq, Repr

inductive SecCause where
  | head (h : Head)
  | restore
  deriving DecidableEq, Repr

inductive NewCause where | strikeIn | emerged
  deriving DecidableEq, Repr

inductive PredResult where | applied | noTransit | queueFull | grace
  deriving DecidableEq, Repr

inductive Acker where | host | signaller
  deriving DecidableEq, Repr

/-- Causes of WRITE_DENIED, in R162's order. -/
inductive DenyCause where | alignment | readOnly | byte | check | notMaintenance
  deriving DecidableEq, Repr

/-- Causes of LINK_CUT: R136's table, then LONG_BREAK (R150). -/
inductive CutCause where | lead | brk | framing | pause | length | check | rate | longBreak
  deriving DecidableEq, Repr

/-- Results of an ANSWER (R142). -/
inductive AnsResult where | accepted | refusedKind | refusedArg | refusedState | partial_
  deriving DecidableEq, Repr

/-- Causes of a maintenance exit, in R190's order. -/
inductive ExitCause where | leaveMaint | withdrawPermit | batteryLow | hostReset | recordFormed | section_
  deriving DecidableEq, Repr

inductive Origin where | fault | crossing | train | host
  deriving DecidableEq, Repr

/-- What happened, with the details its staging rule names (10_commands_image_and_event_ring.md, Event kinds). -/
inductive EventBody where
  | startup
  | settingsLoaded (kind : LoadKind)
  | settingsInvalid (reason : BadBlock)
  | reloadDiscarded
  | headState (head : Head) (before after : HeadState) (cause : HeadCause)
  | sectionState (sec : Sec) (before after : SecState) (reason : Option Reason) (count : Nat) (cause : SecCause)
  | trainNew (slot : Slot) (gen : Byte) (track : Track) (side : Side) (status : Status) (wheels : Nat) (cause : NewCause)
  | trainStatus (slot : Slot) (gen : Byte) (track : Track) (before after : Status)
  | trainPassed (slot : Slot) (gen : Byte)
  | trainWithdrawn (slot : Slot) (gen : Byte)
  | trainLost (slot : Slot) (gen : Byte) (sec : Sec)
  | prediction (slot : Slot) (gen seq : Byte) (result : PredResult) (predicted : Option Time) (deadline : Option Deadline) (clamped : Bool)
  | predictionStale (slot : Slot) (gen seq : Byte)
  | demandOn (key : DemandKey) (time : Time)
  | demandOff (key : DemandKey) (time : Time)
  | crossingState (before after : Crossing) (time : Time) (proven : Bool)
  | mode (before after : Mode)
  | faultRaised (point : Point) (before after : FaultState) (count : Nat) (cause : Option Cause)
  | faultAcked (point : Point) (before after : FaultState) (count : Nat) (by_ : Acker)
  | faultCleared (point : Point) (before after : FaultState) (count : Nat)
  | cmdAccepted (slot : Slot) (kind tag : Byte) (argA argB : Word)
  | cmdRefused (slot : Slot) (kind tag : Byte) (argA argB : Word) (result : CmdResult)
  | writeDenied (addr : Addr) (word : Bool) (region : Option WinKind) (offset : Nat) (cause : DenyCause)
  | linkCmd (kind : Byte) (arg : Option Byte) (result : AnsResult) (groups : Vector Bool 4)
  | linkCut (cause : CutCause) (kind : Option Byte) (chars : Nat) (groups : Vector Bool 4)
  | linkLost (lastWhole : Option Time)
  | linkReturn (lostAt : Option Time)
  | reportAcked (origin : Origin) (key : Option Nat) (cls : Class) (requeued : Bool)
  | outboxBad (index : Nat) (ref : Word) (lengthBad : Bool)
  | gap (missed : Nat) (time : Time)
  | maintEnter
  | maintExit (cause : ExitCause)
  | hostReset
  deriving DecidableEq, Repr

/-- A staged event with its crossing time (R175). -/
structure Event where
  time : Time
  body : EventBody
  deriving DecidableEq, Repr

inductive WriterState where | none | header | idle | record | index
  deriving DecidableEq, Repr

/-- The Event Ring Writer (R175, R176, R179). -/
structure Ring where
  staging : List Event
  missed : Nat
  producer : Nat
  consumer : Nat
  state : WriterState
  /-- The header write in hand while HEADER: capacity 0, consumer 1, producer 2 (R179). -/
  header : Nat
  /-- The access granted at an apply is to be discarded at its completion (R179). -/
  discard : Bool
  deriving DecidableEq, Repr

/-- Everything that lives on the memory side: the window table, the upstream access, the arbiter's port and claims, and the
two blocks that claim the port by themselves as they stage or fetch. -/
structure Bus where
  windows : List Window
  up : Option Upstream
  /-- The last answer given to the host; none while its access is held. -/
  answer : Option Answer
  port : Option Busy
  ringClaim : Option Claim
  loaderClaim : Option Claim
  outboxClaim : Option Claim
  ring : Ring
  outbox : Outbox
  deriving DecidableEq, Repr

/-! ## Setting Loader (11_settings_start_up_and_maintenance.md) -/

/-- A load in flight (R182, R191). -/
structure Load where
  kind : LoadKind
  words : List Word
  overtaken : Bool
  deriving DecidableEq, Repr

structure Loader where
  load : Option Load
  fromBlock : Bool
  lastBad : Option BadBlock
  retryDue : Option Time
  valid : Nat
  invalid : Nat
  deriving DecidableEq, Repr

/-! ## The whole part -/

/-- The part, its pins, and the queue of commands that wait. -/
structure State where
  pending : List Instr
  /-- False in part reset, until the event that ends it (R188). -/
  running : Bool
  now : Time
  settings : Settings
  line : HeadLine
  secs : Sections
  trk : Tracker
  pred : Predictor
  seq : Sequence
  prv : Proving
  flt : Faults
  queue : List Entry
  link : Link
  bus : Bus
  cmd : Vector CmdSlot 8
  img : ImageUnit
  ldr : Loader
  deriving DecidableEq, Repr

/-- The part never stops with a fault: everything the manual calls a fault or a refusal is an effect on the state. -/
inductive Fault where
  deriving DecidableEq, Repr

/-- Reasons to refuse a command. -/
inductive Refusal where
  /-- Raised by exec's arm of a command that has no meaning yet; safe. No arm raises it now. -/
  | notModelled (mnemonic : String)
  deriving DecidableEq, Repr

/-! ## Part reset (R188 and the rules it lists) -/

/-- The built-in timer lengths (R71). -/
def Timers.builtIn : Timers where
  amber := 3000
  redWarn := 5000
  entryLimit := 8000
  exitLimit := 8000
  raiseLimit := 10000
  clearSettle := 2000
  clearLimit := 20000
  minClosed := 5000
  flashPeriod := 1000

/-- The built-in settings (R181). -/
def Settings.builtIn : Settings where
  address := 1
  rate := 3
  linkTimeout := 10000
  spacing := 400
  trainGap := 4000
  restartTimeout := 120000
  secondWindow := 15000
  timers := Timers.builtIn

/-- A head record after part reset (R8). -/
def HeadRec.reset : HeadRec where
  state := .unknown
  heldAB := 0
  heldBA := 0
  failCount := 0
  goodCount := 0
  lastReply := none
  lastHalf := false
  clearPending := false

/-- The head line in part reset (R1, R8); the latches it last used are named in log 29. -/
def HeadLine.reset : HeadLine where
  recs := Vector.replicate 8 HeadRec.reset
  phase := .idle
  head := 7
  kind := .read
  slotStart := 0
  chars := []
  charBad := false
  offered := none
  pollFrame := []

/-- A section after part reset (R23). -/
def SecRec.reset : SecRec := ⟨.disturbed, 0, false, some .startup⟩

/-- The settled levels after part reset (R102): booms UP open, DOWN open, INTACT made; CLEAR open, HEALTHY made; MAINS made,
BATTERY_LOW open. The raw levels are pins; here they equal the settled ones (log 5). -/
def Contact.resetAll : Vector Contact 16 :=
  let open_ : Contact := ⟨false, false, none⟩
  let made : Contact := ⟨true, true, none⟩
  #v[open_, open_, made, open_, open_, made, open_, open_, made, open_, open_, made, open_, made, made, open_]

/-- A fault entry after part reset (R112). -/
def FaultEntry.reset : FaultEntry := ⟨.healthy, 0, none, none, none, false⟩

def DemandSet.empty : DemandSet :=
  ⟨Vector.replicate 8 none, Vector.replicate 6 none, none, none⟩

/-- The Sequence Controller in part reset (R72, R75, R92, R94, R96, R145). -/
def Sequence.reset : Sequence where
  state := .starting
  entered := 0
  demands := DemandSet.empty
  amberDue := none
  redWarnDue := none
  entryDue := none
  settleDue := none
  clearLimitDue := none
  exitDue := none
  minClosedDue := none
  raiseDue := none
  testDue := Vector.replicate 4 none
  drives := Vector.replicate 4 ⟨.lower, .lower, none⟩
  lamps := Vector.replicate 8 .dark
  audible := Vector.replicate 2 false
  flasher := none
  test := none
  proven := false
  permission := false

/-- The link in part reset (R135, R139, R140, R151). -/
def Link.reset : Link where
  rx := none
  groups := Vector.replicate 4 false
  pauseDue := none
  toggle := false
  lost := false
  timerDue := none
  lastWhole := none
  lostAt := none
  brk := none
  sending := none
  buffered := none

/-- Windows, port, ring writer and outbox reader in part reset (R128, R157, R164, R175, R176). DESIGN CHOICE: an upstream
access that STARTING holds undecided, which R164 does not name, is dropped without an answer (log 49). -/
def Bus.reset : Bus where
  windows := []
  up := none
  answer := none
  port := none
  ringClaim := none
  loaderClaim := none
  outboxClaim := none
  ring := ⟨[], 0, 0, 0, .none, 0, false⟩
  outbox := ⟨0, 0, .idle, false⟩

/-- The part in part reset, its queue empty: every block in the state its own chapter gives (R188). -/
def State.reset : State where
  pending := []
  running := false
  now := 0
  settings := Settings.builtIn
  line := HeadLine.reset
  secs := ⟨Vector.replicate 6 SecRec.reset, none⟩
  trk := ⟨Vector.replicate 8 none, Vector.replicate 8 0, [], []⟩
  pred := ⟨Vector.replicate 4 ⟨200, 32000, 60000⟩, [], none⟩
  seq := Sequence.reset
  prv := ⟨Contact.resetAll, Vector.replicate 4 none, Vector.replicate 4 none,
    Vector.replicate 8 ⟨false, none, false, none⟩⟩
  flt := ⟨Vector.replicate 32 FaultEntry.reset, Vector.replicate 32 false, .normal⟩
  queue := []
  link := Link.reset
  bus := Bus.reset
  cmd := Vector.replicate 8 ⟨0, 0, .none, 0, 0, none⟩
  img := ⟨0, none⟩
  ldr := ⟨none, false, none, none, 0, 0⟩

end Sys2Proof.Machine
end

