-- ==== Sys2Proof/Machine/Site.lean ====
section
/-! DEFINITION. The fixed arrangement of the site: which sections a head stands between, what a record's approaches are,
and plain helpers over fixed tables. -/

namespace Sys2Proof.Machine

/-- Replace place `i` of a table by `f` of what it holds. -/
def upd {α : Type} {n : Nat} (v : Vector α n) (i : Fin n) (f : α → α) : Vector α n :=
  v.set i.val (f v[i]) i.isLt

/-- Put `x` at place `i` of a table. -/
def put {α : Type} {n : Nat} (v : Vector α n) (i : Fin n) (x : α) : Vector α n :=
  v.set i.val x i.isLt

def allSlots : List Slot := [0, 1, 2, 3, 4, 5, 6, 7]
def allHeads : List Head := [0, 1, 2, 3, 4, 5, 6, 7]
def allSecs : List Sec := [0, 1, 2, 3, 4, 5]
def allBooms : List Boom := [0, 1, 2, 3]
def allLamps : List Lamp := [0, 1, 2, 3, 4, 5, 6, 7]
def allTracks : List Track := [.t1, .t2]
def reds : List Lamp := [1, 2, 4, 5]

/-- FP0 to FP31, in order. -/
def allPoints : List Point :=
  [0, 1, 2, 3, 4, 5, 6, 7, 8, 9, 10, 11, 12, 13, 14, 15,
   16, 17, 18, 19, 20, 21, 22, 23, 24, 25, 26, 27, 28, 29, 30, 31]

/-- One side of a head: a section, or the line beyond the crossing area (R17). -/
inductive Place where
  | outside
  | sec (i : Sec)
  deriving DecidableEq, Repr

/-- H1 to H4 stand on T1, H5 to H8 on T2 (R17). -/
def headTrack (h : Head) : Track := if h.val < 4 then .t1 else .t2

/-- The side-A neighbour of a head (R17). -/
def sideANeighbour (h : Head) : Place :=
  match h.val with
  | 1 => .sec 0
  | 2 => .sec 1
  | 3 => .sec 2
  | 5 => .sec 3
  | 6 => .sec 4
  | 7 => .sec 5
  | _ => .outside

/-- The side-B neighbour of a head (R17). -/
def sideBNeighbour (h : Head) : Place :=
  match h.val with
  | 0 => .sec 0
  | 1 => .sec 1
  | 2 => .sec 2
  | 4 => .sec 3
  | 5 => .sec 4
  | 6 => .sec 5
  | _ => .outside

/-- The neighbour a movement's wheels leave (R17, R20). -/
def Movement.leaves (m : Movement) : Place :=
  match m.dir with
  | .ab => sideANeighbour m.head
  | .ba => sideBNeighbour m.head

/-- The neighbour a movement's wheels enter (R17, R20). -/
def Movement.enters (m : Movement) : Place :=
  match m.dir with
  | .ab => sideBNeighbour m.head
  | .ba => sideANeighbour m.head

def Place.toSecs : Place → List Sec
  | .outside => []
  | .sec i => [i]

/-- The bounding sections of a head (R17), side A first: a take that disturbs both does so in this order (DESIGN CHOICE,
log 45). -/
def boundingSecs (h : Head) : List Sec :=
  (sideANeighbour h).toSecs ++ (sideBNeighbour h).toSecs

/-- The bounding heads of a section (R17): H1, H2 of S1; H2, H3 of S2; H3, H4 of S3; the same pattern for S4 to S6. -/
def boundingHeads (i : Sec) : List Head :=
  match i.val with
  | 0 => [0, 1]
  | 1 => [1, 2]
  | 2 => [2, 3]
  | 3 => [4, 5]
  | 4 => [5, 6]
  | _ => [6, 7]

/-- The island of a track (00_scope.md): S2 or S5. -/
def islandOf : Track → Sec
  | .t1 => 1
  | .t2 => 4

/-- The approach of a track on one side (00_scope.md): S1, S3, S4, S6. -/
def approachOf : Track → Side → Sec
  | .t1, .a => 0
  | .t1, .b => 2
  | .t2, .a => 3
  | .t2, .b => 5

def secTrack (i : Sec) : Track := if i.val < 3 then .t1 else .t2

def isIsland (i : Sec) : Bool := i == 1 || i == 4

def Side.other : Side → Side
  | .a => .b
  | .b => .a

/-- Movement inward from a side: AB from side A, BA from side B. -/
def inward : Side → Dir
  | .a => .ab
  | .b => .ba

/-- The side wheels moving in a direction come from. -/
def Dir.fromSide : Dir → Side
  | .ab => .a
  | .ba => .b

/-- The end at which an outer head stands: H1 and H5 side A, H4 and H8 side B (00_scope.md). -/
def headSide (h : Head) : Side := if h.val % 4 < 2 then .a else .b

/-- The warning-table entry of an approach: W0 T1 A, W1 T1 B, W2 T2 A, W3 T2 B. -/
def warnIndex : Track → Side → Fin 4
  | .t1, .a => 0
  | .t1, .b => 1
  | .t2, .a => 2
  | .t2, .b => 3

/-- The halt approaches are S1 and S4, on side A (R57). -/
def isHalt : Side → Bool
  | .a => true
  | .b => false

/-- Lamp item of the driver's indicator of a track (R107). -/
def indicatorOf : Track → Lamp
  | .t1 => 6
  | .t2 => 7

/-! Fault points (00_scope.md). -/

def lampPoint (i : Lamp) : Point := ⟨i.val, by omega⟩
def boomPoint (b : Boom) : Point := ⟨8 + b.val, by omega⟩
def headPoint (h : Head) : Point := ⟨12 + h.val, by omega⟩
def secPoint (i : Sec) : Point := ⟨20 + i.val, by omega⟩
def fpDetector : Point := 26
def fpObstructed : Point := 27
def fpMains : Point := 28
def fpBattery : Point := 29
def fpLink : Point := 30
def fpSettings : Point := 31

/-! Contact inputs in the order of R102's list: UP, DOWN, INTACT of B0, then of B1, B2, B3, then CLEAR, HEALTHY, MAINS,
BATTERY_LOW (log 19). -/

def upContact (b : Boom) : Fin 16 := ⟨3 * b.val, by omega⟩
def downContact (b : Boom) : Fin 16 := ⟨3 * b.val + 1, by omega⟩
def intactContact (b : Boom) : Fin 16 := ⟨3 * b.val + 2, by omega⟩
def clearContact : Fin 16 := 12
def healthyContact : Fin 16 := 13
def mainsContact : Fin 16 := 14
def batteryContact : Fin 16 := 15

/-- The boom a contact input belongs to, none for the detector and the supply. -/
def contactBoom (i : Fin 16) : Option Boom :=
  if h : i.val < 12 then some ⟨i.val / 3, by omega⟩ else none

/-- The three contacts of a boom. -/
def boomContacts (b : Boom) : List (Fin 16) := [upContact b, downContact b, intactContact b]

/-! Wheels of a record, by section. -/

def TrainRec.entrySec (r : TrainRec) : Sec := approachOf r.track r.entrySide
def TrainRec.islandSec (r : TrainRec) : Sec := islandOf r.track
def TrainRec.exitSec (r : TrainRec) : Sec := approachOf r.track r.entrySide.other

/-- The wheels the record holds in a section (R35). -/
def TrainRec.wheelsIn (r : TrainRec) (i : Sec) : Nat :=
  if i = r.entrySec then r.wEntry
  else if i = r.islandSec then r.wIsland
  else if i = r.exitSec then r.wExit
  else 0

/-- Set the wheels the record holds in a section of its track. -/
def TrainRec.setWheels (r : TrainRec) (i : Sec) (n : Nat) : TrainRec :=
  if i = r.entrySec then { r with wEntry := n }
  else if i = r.islandSec then { r with wIsland := n }
  else if i = r.exitSec then { r with wExit := n }
  else r

def TrainRec.total (r : TrainRec) : Nat := r.wEntry + r.wIsland + r.wExit

/-- The record slots of a track in list order from the A end (R37). -/
def Tracker.order (t : Tracker) : Track → List Slot
  | .t1 => t.order1
  | .t2 => t.order2

def Tracker.setOrder (t : Tracker) (k : Track) (l : List Slot) : Tracker :=
  match k with
  | .t1 => { t with order1 := l }
  | .t2 => { t with order2 := l }

end Sys2Proof.Machine
end

