-- ==== Sys2Proof/Machine/Flags.lean ====
section
/-! DEFINITION. The derived conditions of the manual: what is read off the state and never stored twice. -/

namespace Sys2Proof.Machine

/-! ## Booms, detector, supply (R104, R109, R110) -/

/-- A boom's position (R104). -/
inductive Position where | up | down | travel | conflict
  deriving DecidableEq, Repr

inductive Detector where | clear | obstructed | fault
  deriving DecidableEq, Repr

def Proving.settled (p : Proving) (i : Fin 16) : Bool := p.contacts[i].settled

/-- R104's table over the settled UP and DOWN contacts. -/
def positionOf : Bool → Bool → Position
  | true, false => .up
  | false, true => .down
  | false, false => .travel
  | true, true => .conflict

/-- The boom's position, from its settled UP and DOWN contacts (R104). -/
def Proving.position (p : Proving) (b : Boom) : Position :=
  positionOf (p.settled (upContact b)) (p.settled (downContact b))

/-- INTACT while the settled INTACT contact is made (R104). -/
def Proving.intact (p : Proving) (b : Boom) : Bool := p.settled (intactContact b)

/-- The detector's settled state (R109). -/
def Proving.detector (p : Proving) : Detector :=
  if !p.settled healthyContact then .fault
  else if p.settled clearContact then .clear
  else .obstructed

def Proving.batteryLow (p : Proving) : Bool := p.settled batteryContact
def Proving.mainsLost (p : Proving) : Bool := !p.settled mainsContact

def Proving.allAt (p : Proving) (bs : List Boom) (x : Position) : Bool :=
  bs.all fun b => p.position b == x

/-- The four booms, the entry booms and the exit booms (00_scope.md). -/
def entryBooms : List Boom := [0, 2]
def exitBooms : List Boom := [1, 3]

/-- The end position a drive target commands (R106). -/
def Target.endPosition : Target → Position
  | .raise => .up
  | .lower => .down

/-- The boom is at its commanded end position with consistent contacts and INTACT (R106). -/
def atCommandedEnd (p : Proving) (q : Sequence) (b : Boom) : Bool :=
  p.position b == q.drives[b].target.endPosition && p.intact b

/-! ## Closure, mode, demands (R95, R119, R72) -/

/-- Closure proven (R95): CLOSED with every boom DOWN and INTACT. -/
def closureHolds (q : Sequence) (p : Proving) : Bool :=
  q.state == .closed && allBooms.all fun b => p.position b == .down && p.intact b

/-- The conditions that make the mode FAILED (R119). -/
def failedConditions (f : Faults) : Bool :=
  (f.present[1] && f.present[2]) || (f.present[4] && f.present[5])
  || allBooms.any (fun b => f.present[boomPoint b])
  || allSecs.any (fun i => f.present[secPoint i])
  || f.present[fpObstructed]

/-- The crossing mode (R119). -/
def modeOf (q : Sequence) (f : Faults) : Mode :=
  if q.state = .test then .maintenance
  else if failedConditions f then .failed
  else .normal

/-- Entries whose state is not HEALTHY, FP30 included (R119). -/
def unhealthyCount (f : Faults) : Nat :=
  (allPoints.filter fun p => f.table[p].state != .healthy).length

def DemandSet.get (d : DemandSet) : DemandKey → Option Time
  | .record i => d.records[i]
  | .section_ i => d.sections[i]
  | .localHold => d.localHold
  | .signallerHold => d.signallerHold

def DemandSet.set (d : DemandSet) (k : DemandKey) (t : Option Time) : DemandSet :=
  match k with
  | .record i => { d with records := put d.records i t }
  | .section_ i => { d with sections := put d.sections i t }
  | .localHold => { d with localHold := t }
  | .signallerHold => { d with signallerHold := t }

/-- Every demand there can be, in the order of the image (R72, 12_formats.md). -/
def allDemands : List DemandKey :=
  allSlots.map .record ++ allSecs.map .section_ ++ [.localHold, .signallerHold]

def DemandSet.depth (d : DemandSet) : Nat := (allDemands.filter fun k => (d.get k).isSome).length

def DemandSet.isEmpty (d : DemandSet) : Bool := allDemands.all fun k => (d.get k).isNone

/-! ## Records (R44, R49, R54, R69) -/

/-- The side of the approach that holds the wheels of a record whose wheels are all in one approach. -/
def TrainRec.approachSide (r : TrainRec) : Side :=
  if 0 < r.wEntry then r.entrySide else r.entrySide.other

/-- R44's table. -/
def TrainRec.derivedStatus (r : TrainRec) : Status :=
  if 0 < r.wIsland || (0 < r.wEntry && 0 < r.wExit) then .crossing
  else if r.heading != inward r.approachSide then .departing
  else if r.status == .stopped then .stopped
  else .approaching

def TrainRec.reached (r : TrainRec) : Bool := r.deadline.any (·.reached)

/-- The record holds a RECORD demand (R54). -/
def TrainRec.holdsDemand (r : TrainRec) : Bool :=
  match r.status with
  | .approaching => r.reached
  | .crossing => true
  | .stopped => r.restartReq
  | .departing => false

/-- The overdue time of an APPROACHING record (R49). -/
def TrainRec.overdueTime (r : TrainRec) : Time :=
  match r.predicted with
  | some p => p + r.margin
  | none => r.approach.getD 0 + r.warning + r.margin

/-- The imminent test on one record (R69): a reached deadline is imminent whatever the window (log 35). -/
def TrainRec.imminent (r : TrainRec) (now window : Nat) : Bool :=
  r.status == .approaching &&
  match r.deadline with
  | none => true
  | some d => d.reached || d.time < now + window

/-- The record is STOPPED on its track's halt approach with restart requested (R96). -/
def TrainRec.awaitsProceed (r : TrainRec) (t : Track) : Bool :=
  r.track == t && r.status == .stopped && r.restartReq && isHalt r.approachSide

def Tracker.liveRecs (t : Tracker) : List TrainRec := allSlots.filterMap fun i => t.recs[i]

/-- The Approach Tracker's answer to the opening check (R69). -/
def anyImminent (t : Tracker) (now window : Nat) : Bool :=
  t.liveRecs.any fun r => r.imminent now window

/-- The Sequence Controller is owed a deadline notice for a record that went from `old` to `new` in one event (R69):
an APPROACHING record's deadline was set, moved or reached, or an APPROACHING record without a demand left
APPROACHING or was removed. DESIGN CHOICE: a result that gives a deadline the very value it has neither sets nor moves it, and
no notice follows (log 52). -/
def deadlineNoticeDue (old new : Option TrainRec) : Bool :=
  (match old with
   | some o => o.status == .approaching && !o.holdsDemand &&
       (match new with
        | some n => n.status != .approaching
        | none => true)
   | none => false)
  || (match new with
      | some n => n.status == .approaching && n.deadline.isSome &&
          (match old with
           | some o => o.deadline != n.deadline
           | none => true)
      | none => false)

/-! ## Driver's indicators (R96) -/

/-- The condition of the indicator of a track (R96). -/
def indicatorLit (q : Sequence) (f : Faults) (t : Tracker) (k : Track) : Bool :=
  q.proven && f.mode == .normal && t.liveRecs.any fun r => r.awaitsProceed k

/-! ## Lamps (R107) -/

/-- The side of the flasher a red lamp lights in: red-left in left, red-right in right (R94). -/
def redIsRight (i : Lamp) : Bool := i == 2 || i == 5

/-- The expected state of a lamp item: true for LIT (R107). -/
def expectedLit (q : Sequence) (i : Lamp) : Bool :=
  match q.lamps[i] with
  | .lit => true
  | .dark => false
  | .flash =>
    match q.flasher with
    | some f => f.right == redIsRight i
    | none => false

/-! ## Windows and rings (R128, R129, R157, R176 to R178) -/

def Window.first (w : Window) : Nat := 256 * w.base
def Window.size (w : Window) : Nat := 256 * w.units
def Window.covers (w : Window) (a : Nat) : Bool := w.first ≤ a && a < w.first + w.size

def windowOf (ws : List Window) (k : WinKind) : Option Window := ws.find? fun w => w.kind == k

/-- The window that holds a byte, if any (R158). -/
def windowAt (ws : List Window) (a : Nat) : Option Window := ws.find? fun w => w.covers a

/-- Capacity of the event ring in a window (R176). -/
def ringCapacity (w : Window) : Nat := (w.size - 16) / 16

/-- Capacity of the outbox ring in a window (R128). -/
def outboxCapacity (w : Window) : Nat := (w.size - 32) / 32

/-- Distance from `from_` forward to `to_` in a ring. -/
def ringDist (cap from_ to_ : Nat) : Nat := (to_ + cap - from_) % cap

/-- The event ring has space (R176). -/
def Ring.hasSpace (r : Ring) (cap : Nat) : Bool := ringDist cap r.consumer r.producer + 1 < cap

/-- A consumer-index write is accepted (R178). -/
def Ring.acceptsConsumer (r : Ring) (cap value : Nat) : Bool :=
  value < cap && ringDist cap r.consumer value ≤ ringDist cap r.consumer r.producer

/-- Outstanding records of the outbox (R128). -/
def Outbox.outstanding (o : Outbox) (cap : Nat) : Nat := ringDist cap o.consumer o.shadow

/-- A producer-index write is accepted (R129). -/
def Outbox.acceptsProducer (o : Outbox) (cap value : Nat) : Bool :=
  value < cap && ringDist cap o.shadow value ≤ cap - 1 - o.outstanding cap

/-- HOST entries queued (R123). -/
def hostEntries (q : List Entry) : Nat :=
  (q.filter fun e => match e.content with | .host .. => true | _ => false).length

/-- A train report is queued for the slot (R36). -/
def slotReserved (q : List Entry) (i : Slot) : Bool :=
  q.any fun e => match e.content with | .train j .. => j == i | _ => false

/-- A slot is available: no record occupies it and no train report is queued for it (R36). -/
def slotAvailable (s : State) (i : Slot) : Bool :=
  s.trk.recs[i].isNone && !slotReserved s.queue i

/-- The sequence minimum (R58). -/
def Timers.sequenceMinimum (t : Timers) : Nat :=
  t.amber + t.redWarn + t.entryLimit + t.clearSettle + t.exitLimit

/-- The class of a fault point (R116). -/
def pointClass (p : Point) : Class :=
  if (8 ≤ p.val && p.val ≤ 11) || (20 ≤ p.val && p.val ≤ 25) || p.val == 27 || p.val == 29 then .urgent else .alert

def Kinds.none : Kinds := ⟨false, false, false, false⟩

def Kinds.merge (x y : Kinds) : Kinds :=
  ⟨x.overdue || y.overdue, x.overrun || y.overrun, x.unprotected || y.unprotected, x.lost || y.lost⟩

/-- A train report is URGENT while its kinds include OVERRUN or UNPROTECTED (R55). -/
def Kinds.urgent (k : Kinds) : Bool := k.overrun || k.unprotected

def Kinds.any (k : Kinds) : Bool := k.overdue || k.overrun || k.unprotected || k.lost

end Sys2Proof.Machine
end

