-- ==== Sys2Proof/Machine/Operands.lean ====
section
/-! DEFINITION. The layouts of 12_formats.md: bytes and words, the two checks, event records, frames and the setting
block. -/

namespace Sys2Proof.Machine

/-! ## Bytes (12_formats.md, Coding common to every layout) -/

def byte (n : Nat) : Byte := BitVec.ofNat 8 n
def loByte (w : Word) : Byte := w.extractLsb' 0 8
def hiByte (w : Word) : Byte := w.extractLsb' 8 8
/-- A word from its low and its high byte: low byte first. -/
def wordOf (lo hi : Byte) : Word := hi ++ lo
def bytes2 (n : Nat) : List Byte := [byte n, byte (n / 256)]
def bytes3 (n : Nat) : List Byte := [byte n, byte (n / 256), byte (n / 65536)]
def bytes4 (n : Nat) : List Byte := [byte n, byte (n / 256), byte (n / 65536), byte (n / 16777216)]
def wordBytes (w : Word) : List Byte := [loByte w, hiByte w]
def bit (b : Bool) (i : Nat) : Nat := if b then 2 ^ i else 0

/-- Flags gathered into one byte, numbered from bit 0. -/
def flagByteFrom : Nat → List Bool → Nat
  | _, [] => 0
  | i, b :: bs => bit b i + flagByteFrom (i + 1) bs

def flagByte (bs : List Bool) : Byte := byte (flagByteFrom 0 bs)

/-- The number a stamp holds: the crossing time divided by 256. A time too late for 24 bits gives a free value (log 16). -/
def stampValue (t : Time) : Nat :=
  if t / 256 < 0xFFFFFF then t / 256 else (Config.lateStamp t).toNat

/-- A stamp, FFFFFFh for absent. -/
def stamp (t : Option Time) : List Byte := bytes3 (match t with | some t => stampValue t | none => 0xFFFFFF)

/-- A four-byte time, FFFFFFFFh for absent. -/
def time4 (t : Option Time) : List Byte := bytes4 (t.getD 0xFFFFFFFF)

/-- A wheel count in one byte: a total past 255 gives a free value (log 17). -/
def wheelsByte (n : Nat) : Byte := if n ≤ 255 then byte n else Config.wideWheels n

/-- Pad with zeros to a length (R196). -/
def padTo (n : Nat) (l : List Byte) : List Byte := l ++ List.replicate (n - l.length) 0

/-! ## Checks (R195) -/

/-- The 8-bit check over some bytes: with it the sum is 0 modulo 256. -/
def check8 (l : List Byte) : Byte := - l.foldl (· + ·) 0

/-- One bit of the 16-bit check. -/
def crcBit (r : Word) (b : Bool) : Word :=
  if r.getLsbD 15 != b then (r <<< 1) ^^^ 0x1021 else r <<< 1

/-- One byte of the 16-bit check, most significant bit first. -/
def crcByte (r : Word) (x : Byte) : Word :=
  [7, 6, 5, 4, 3, 2, 1, 0].foldl (fun r i => crcBit r (x.getLsbD i)) r

/-- The 16-bit check over some bytes. -/
def check16 (l : List Byte) : Word := l.foldl crcByte 0xFFFF

/-! ## Codes of enumerated fields, from 0 in the order of their lists -/

def HeadState.code : HeadState → Nat
  | .unknown => 0 | .settling => 1 | .active => 2 | .missing => 3 | .failed => 4

def HeadCause.code : HeadCause → Nat
  | .silent => 0 | .garbled => 1 | .wrongHead => 2 | .broken => 3 | .good => 4 | .sensorFault => 5 | .implausible => 6

def SecState.code : SecState → Nat
  | .clear => 0 | .occupied => 1 | .disturbed => 2 | .restoring => 3

def Reason.code : Reason → Nat
  | .headFailed => 0 | .halfWheel => 1 | .implausible => 2 | .negative => 3 | .listFull => 4 | .startup => 5

def Status.code : Status → Nat
  | .approaching => 0 | .stopped => 1 | .crossing => 2 | .departing => 3

def Track.code : Track → Nat
  | .t1 => 0 | .t2 => 1

def Side.code : Side → Nat
  | .a => 0 | .b => 1

def Dir.code : Dir → Nat
  | .ab => 0 | .ba => 1

def Crossing.code : Crossing → Nat
  | .starting => 0 | .startClose => 1 | .opened => 2 | .amber => 3 | .redWarn => 4 | .entryLower => 5
  | .clearance => 6 | .exitLower => 7 | .closed => 8 | .raising => 9 | .test => 10

def Mode.code : Mode → Nat
  | .normal => 0 | .failed => 1 | .maintenance => 2

def DriveOut.code : DriveOut → Nat
  | .raise => 0 | .hold => 1 | .lower => 2

def Target.code : Target → Nat
  | .raise => 0 | .lower => 1

def LampCmd.code : LampCmd → Nat
  | .dark => 0 | .lit => 1 | .flash => 2

def Position.code : Position → Nat
  | .up => 0 | .down => 1 | .travel => 2 | .conflict => 3

/-- DESIGN CHOICE: R83's order, CLEAR, OBSTRUCTED, FAULT; R109 names FAULT first (log 55). -/
def Detector.code : Detector → Nat
  | .clear => 0 | .obstructed => 1 | .fault => 2

def FaultState.code : FaultState → Nat
  | .healthy => 0 | .faulty => 1 | .faultyAcked => 2 | .clearedUnacked => 3

def Class.code : Class → Nat
  | .urgent => 0 | .alert => 1 | .info => 2

def Origin.code : Origin → Nat
  | .fault => 0 | .crossing => 1 | .train => 2 | .host => 3

def BoomCause.code : BoomCause → Nat
  | .notDownAtLimit => 3 | .notUpAtLimit => 4 | .leftDown => 5 | .conflict => 6 | .broken => 7

/-- The coding of the fault last cause (12_formats.md, The image). -/
def Cause.code : Cause → Nat
  | .lamp .seenDark => 1
  | .lamp .seenLit => 2
  | .boom c => c.code
  | .head c => 16 + c.code
  | .section_ r => 32 + r.code
  | .detectorFault => 48
  | .clearanceLimit => 49

def causeByte (c : Option Cause) : Byte := byte (match c with | some c => c.code | none => 0xFF)

def CmdResult.code : CmdResult → Nat
  | .none => 0 | .accepted => 1 | .badKind => 2 | .badArg => 3 | .wrongState => 4 | .notSeen => 5
  | .notPermitted => 6 | .busy => 7

/-- The kind code of a window descriptor (12_formats.md, Setting block). -/
def WinKind.code : WinKind → Nat
  | .image => 1 | .command => 2 | .eventRing => 3 | .outbox => 4 | .guarded => 5

def DenyCause.code : DenyCause → Nat
  | .alignment => 0 | .readOnly => 1 | .byte => 2 | .check => 3 | .notMaintenance => 4

/-- The causes of a cut in the order of R136's table. DESIGN CHOICE: LONG_BREAK (R150), which the table does not list, has the
code after them (log 53). -/
def CutCause.code : CutCause → Nat
  | .lead => 0 | .brk => 1 | .framing => 2 | .pause => 3 | .length => 4 | .check => 5 | .rate => 6 | .longBreak => 7

def AnsResult.code : AnsResult → Nat
  | .accepted => 0 | .refusedKind => 1 | .refusedArg => 2 | .refusedState => 3 | .partial_ => 4

def ExitCause.code : ExitCause → Nat
  | .leaveMaint => 0 | .withdrawPermit => 1 | .batteryLow => 2 | .hostReset => 3 | .recordFormed => 4 | .section_ => 5

def LoadKind.code : LoadKind → Nat
  | .first => 0 | .retry => 1 | .reload => 2

/-- Reasons of R183 in the image's settings status, coded 1 to 7 in R183's order (12_formats.md, Settings status); an event
record codes them from 0 (log 15). -/
def BadBlock.code : BadBlock → Nat
  | .marker => 1 | .version => 2 | .length => 3 | .check => 4 | .range => 5 | .windows => 6 | .warning => 7

def ReaderState.code : ReaderState → Nat
  | .idle => 0 | .fetching => 1 | .writing => 2

def WriterState.code : WriterState → Nat
  | .none => 0 | .header => 1 | .idle => 2 | .record => 3 | .index => 4

/-- DESIGN CHOICE: the kinds of demand have the order of the image's demand set (log 15). -/
def DemandKey.kindCode : DemandKey → Nat
  | .record _ => 0 | .section_ _ => 1 | .localHold => 2 | .signallerHold => 3

/-- The key byte of a demand: the slot, the section's number, FFh where there is none. -/
def DemandKey.keyCode : DemandKey → Nat
  | .record i => i.val | .section_ i => i.val + 1 | .localHold => 0xFF | .signallerHold => 0xFF

/-! ## Event records (R175, 12_formats.md, Event ring) -/

/-- The blocks of the block diagram, numbered from 1 (00_scope.md). -/
inductive Block where
  | headLine | sectionCounter | approachTracker | arrivalPredictor | sequenceController | provingUnit | faultSupervisor
  | reportQueue | signallerLink | passThrough | arbiter | commandAdmission | imageUnit | ringWriter | settingLoader
  deriving DecidableEq, Repr

def Block.code : Block → Nat
  | .headLine => 1 | .sectionCounter => 2 | .approachTracker => 3 | .arrivalPredictor => 4 | .sequenceController => 5
  | .provingUnit => 6 | .faultSupervisor => 7 | .reportQueue => 8 | .signallerLink => 9 | .passThrough => 10
  | .arbiter => 11 | .commandAdmission => 12 | .imageUnit => 13 | .ringWriter => 14 | .settingLoader => 15

/-- The kind of an event, numbered from 1 in the order of the event kinds table. -/
def EventBody.kind : EventBody → Nat
  | .startup => 1 | .settingsLoaded _ => 2 | .settingsInvalid _ => 3 | .reloadDiscarded => 4
  | .headState .. => 5 | .sectionState .. => 6
  | .trainNew .. => 7 | .trainStatus .. => 8 | .trainPassed .. => 9 | .trainWithdrawn .. => 10 | .trainLost .. => 11
  | .prediction .. => 12 | .predictionStale .. => 13
  | .demandOn .. => 14 | .demandOff .. => 15 | .crossingState .. => 16 | .mode .. => 17
  | .faultRaised .. => 18 | .faultAcked .. => 19 | .faultCleared .. => 20
  | .cmdAccepted .. => 21 | .cmdRefused .. => 22 | .writeDenied .. => 23
  | .linkCmd .. => 24 | .linkCut .. => 25 | .linkLost _ => 26 | .linkReturn _ => 27
  | .reportAcked .. => 28 | .outboxBad .. => 29 | .gap .. => 30
  | .maintEnter => 31 | .maintExit _ => 32 | .hostReset => 33

/-- The block that stages an event (10_commands_image_and_event_ring.md, Event kinds). -/
def EventBody.origin : EventBody → Block
  | .startup | .settingsLoaded _ | .settingsInvalid _ | .reloadDiscarded => .settingLoader
  | .headState .. => .headLine
  | .sectionState .. => .sectionCounter
  | .trainNew .. | .trainStatus .. | .trainPassed .. | .trainWithdrawn .. | .trainLost .. => .approachTracker
  | .prediction .. | .predictionStale .. => .arrivalPredictor
  | .demandOn .. | .demandOff .. | .crossingState .. | .maintEnter | .maintExit _ => .sequenceController
  | .mode .. | .faultRaised .. | .faultAcked .. | .faultCleared .. => .faultSupervisor
  | .cmdAccepted .. | .cmdRefused .. => .commandAdmission
  | .writeDenied .. | .hostReset => .passThrough
  | .linkCmd .. | .linkCut .. | .linkLost _ | .linkReturn _ => .signallerLink
  | .reportAcked .. | .outboxBad .. => .reportQueue
  | .gap .. => .ringWriter

/-- The subject word: slot and generation for approach-list and prediction events, else the number of the head, section,
point, command slot or ring index, and 0 where there is none (log 15). -/
def EventBody.subject : EventBody → List Byte
  | .headState h .. => bytes2 (h.val + 1)
  | .sectionState i .. => bytes2 (i.val + 1)
  | .trainNew i g .. | .trainStatus i g .. | .trainPassed i g | .trainWithdrawn i g | .trainLost i g _
  | .prediction i g .. | .predictionStale i g _ => [byte i.val, g]
  | .faultRaised p .. | .faultAcked p .. | .faultCleared p .. => bytes2 p.val
  | .cmdAccepted i .. | .cmdRefused i .. => bytes2 i.val
  | .outboxBad i .. => bytes2 i
  | _ => [0, 0]

def SecCause.codeByte : SecCause → Byte
  | .head h => byte (h.val + 1)
  | .restore => Config.restoreCode

/-- Result and cause bits of a PREDICTION record. -/
def PredResult.bits : PredResult → Nat
  | .applied => 0 | .noTransit => 1 + 2 | .queueFull => 1 + 4 | .grace => 1 + 6

def groupsByte (g : Vector Bool 4) : Byte := flagByte g.toList

def optByte (b : Option Byte) : Byte := b.getD 0xFF

/-- The region of a denied write and the offset in it (R162). DESIGN CHOICE: the window's kind has the code of its descriptor,
1 to 5, where the common coding would count from 0. DEDUCED: outside windows both are absent, FFh and FFFFh (log 15). -/
def regionBytes (k : Option WinKind) (offset : Nat) : List Byte :=
  match k with
  | some k => byte k.code :: bytes2 offset
  | none => [0xFF, 0xFF, 0xFF]

/-- The details of an event, in the order its staging rule names them. DESIGN CHOICE: what the subject word holds (the ring
index of OUTBOX_BAD among it) is not repeated here. DEDUCED: the reason of SETTINGS_INVALID has the common coding, from 0
(log 15). -/
def EventBody.details : EventBody → List Byte
  | .startup | .reloadDiscarded | .maintEnter | .hostReset => []
  | .settingsLoaded k => [byte k.code]
  | .settingsInvalid r => [byte (r.code - 1)]
  | .headState _ b a c => [byte b.code, byte a.code, byte c.code]
  | .sectionState _ b a r n c =>
    [byte b.code, byte a.code, byte (match r with | some r => r.code | none => 0xFF), byte n, c.codeByte]
  | .trainNew _ _ t s st w c =>
    [byte t.code, byte s.code, byte st.code, wheelsByte w, byte (match c with | .strikeIn => 0 | .emerged => 1)]
  | .trainStatus _ _ t b a => [byte t.code, byte b.code, byte a.code]
  | .trainPassed .. | .trainWithdrawn .. => []
  | .trainLost _ _ i => [byte (i.val + 1)]
  | .prediction _ _ q r p d c =>
    [q, byte (r.bits + bit (d.any (·.reached)) 3 + bit c 4)] ++ stamp p ++ stamp (d.map (·.time))
  | .predictionStale _ _ q => [q]
  | .demandOn k t | .demandOff k t => [byte k.kindCode, byte k.keyCode] ++ time4 (some t)
  | .crossingState b a t p => [byte b.code, byte a.code] ++ time4 (some t) ++ [flagByte [p]]
  | .mode b a => [byte b.code, byte a.code]
  | .faultRaised _ b a n c => [byte b.code, byte a.code, byte n, causeByte c]
  | .faultAcked _ b a n w => [byte b.code, byte a.code, byte n, byte (match w with | .host => 0 | .signaller => 1)]
  | .faultCleared _ b a n => [byte b.code, byte a.code, byte n]
  | .cmdAccepted _ k t a b => [k, t] ++ wordBytes a ++ wordBytes b ++ [byte CmdResult.accepted.code]
  | .cmdRefused _ k t a b r => [k, t] ++ wordBytes a ++ wordBytes b ++ [byte r.code]
  | .writeDenied a w k o c => bytes3 a.toNat ++ [flagByte [w]] ++ regionBytes k o ++ [byte c.code]
  | .linkCmd k a r g => [k, optByte a, byte r.code, groupsByte g]
  | .linkCut c k n g => [byte c.code, optByte k, byte n, groupsByte g]
  | .linkLost t | .linkReturn t => time4 t
  | .reportAcked o k c r =>
    [byte o.code, byte (k.getD 0xFF), byte c.code, byte (if r then 1 else 0)]
  | .outboxBad _ ref b => wordBytes ref ++ [byte (if b then 1 else 0)]
  | .gap n t => bytes2 n ++ time4 (some t)
  | .maintExit c => [byte c.code]

/-- The sixteen bytes of an event record (12_formats.md, Event ring). -/
def Event.record (e : Event) : List Byte :=
  bytes4 e.time ++ [byte e.body.kind, byte e.body.origin.code] ++ e.body.subject ++ padTo 8 e.body.details

/-! ## Head line (R194) -/

/-- The poll frame for a head and a transaction kind. -/
def pollFrame (h : Head) (k : TxnKind) : List Byte :=
  let cover := [byte (h.val + 1), match k with | .read => 0 | .clearHalf => 1]
  cover ++ [check8 cover]

/-! ## Link frames (R135, R141, R142, R147, 12_formats.md) -/

/-- A whole frame: lead, kind, length, body, and the 16-bit check low byte first (R135, R195). -/
def linkFrame (addr kind : Byte) (body : List Byte) : List Byte :=
  let cover := kind :: byte body.length :: body
  addr :: (cover ++ wordBytes (check16 cover))

/-- Origin of a report content. -/
def Content.origin : Content → Origin
  | .fault .. => .fault
  | .crossing .. => .crossing
  | .train .. => .train
  | .host .. => .host

/-- Key of a report content: the fault point or the record slot (R122). -/
def Content.key : Content → Option Nat
  | .fault p .. => some p.val
  | .train i .. => some i.val
  | .crossing .. | .host .. => none

/-- The content bytes of a REPORT (12_formats.md, Signaller link frames). -/
def Content.bytes : Content → List Byte
  | .fault _ st n f l c => [byte st.code, byte n] ++ time4 f ++ time4 l ++ [causeByte c]
  | .crossing st m p u t => [byte st.code, byte m.code, flagByte [p], byte u] ++ time4 (some t)
  | .train _ g tr sd k st w t =>
    [g, byte tr.code, byte sd.code, flagByte [k.overdue, k.overrun, k.unprotected, k.lost],
      byte (match st with | some st => st.code | none => 4), wheelsByte w] ++ time4 (some t)
  | .host ref text i t => wordBytes ref ++ [byte text.length, byte i] ++ time4 (some t) ++ text

/-- The body of a REPORT frame (R141). -/
def reportBody (toggle : Bool) (x : Sent) : List Byte :=
  [byte (bit toggle 0 + 2 * x.content.origin.code), byte (x.content.key.getD 0xFF), byte x.cls.code] ++ x.content.bytes

/-- The crossing summary of an IDLE frame (R141). -/
def idleBody (q : Sequence) (f : Faults) : List Byte :=
  [byte q.state.code, byte f.mode.code, flagByte [q.proven], byte (unhealthyCount f)]

/-- Standing demands as 16 bits in the order of the image. -/
def demandBits (d : DemandSet) : List Byte :=
  bytes2 (flagByteFrom 0 (allDemands.map fun k => (d.get k).isSome))

/-- Fault states at two bits per point (R147). DESIGN CHOICE: the lowest of a byte's four points has its low bits, so that FP0
has bits 0 and 1 of the first byte (log 56). -/
def faultStateBytes (f : Faults) : List Byte :=
  [0, 4, 8, 12, 16, 20, 24, 28].map fun base =>
    byte (((allPoints.drop base).take 4).reverse.foldl (fun n p => 4 * n + (f.table[p]).state.code) 0)

/-- The status summary (R147, 12_formats.md). -/
def statusSummary (s : State) : List Byte :=
  [byte s.seq.state.code, byte s.flt.mode.code, flagByte [s.seq.proven, s.seq.permission], byte (unhealthyCount s.flt)]
  ++ faultStateBytes s.flt ++ demandBits s.seq.demands
  ++ (allSecs.map fun i => byte (s.secs.table[i]).state.code)
  ++ (allHeads.map fun h => byte (s.line.recs[h]).state.code)
  ++ (s.pred.table.toList.flatMap fun w => bytes2 (w.warning / 100) ++ bytes2 (w.margin / 100))
  ++ [byte s.trk.order1.length, byte s.trk.order2.length, byte s.queue.length]

def answerBody (kind : Byte) (r : AnsResult) (mask : Byte) (summary : List Byte) : List Byte :=
  [kind, byte r.code, mask] ++ summary

/-! ## Setting block (R181, R183, R184, 12_formats.md) -/

/-- The byte at an offset of a block held as words. -/
def blockByte (ws : List Word) (off : Nat) : Byte :=
  let w := ws.getD (off / 2) 0
  if off % 2 = 0 then loByte w else hiByte w

/-- The word at an offset of a block; offsets may be odd within the window descriptors only. -/
def blockWord (ws : List Word) (off : Nat) : Nat :=
  (wordOf (blockByte ws off) (blockByte ws (off + 1))).toNat

def blockWord4 (ws : List Word) (off : Nat) : Nat := blockWord ws off + 65536 * blockWord ws (off + 2)

def blockLength (ws : List Word) : Nat := blockWord ws 4

/-- A window descriptor as read: kind code, base in units, length in units, last flag. -/
structure Descriptor where
  kind : Nat
  base : Nat
  units : Nat
  last : Bool
  deriving DecidableEq, Repr

/-- The descriptor at an offset (12_formats.md). -/
def descriptorAt (ws : List Word) (off : Nat) : Descriptor :=
  let b0 := (blockByte ws off).toNat
  let b1 := (blockByte ws (off + 1)).toNat
  ⟨b0 % 8, blockWord ws (off + 2), if b1 = 0 then 256 else b1, b0 / 128 == 1⟩

/-- Read descriptors in order until one carries the last flag; none when the eighth does not carry it or the list would
reach the check word (R184). -/
def readDescriptors (ws : List Word) (limit : Nat) : Nat → Nat → Option (List Descriptor)
  | 0, _ => none
  | n + 1, off =>
    if limit < off + 4 then none
    else
      let d := descriptorAt ws off
      if d.last then some [d]
      else (readDescriptors ws limit n (off + 4)).map (d :: ·)

def kindOfCode : Nat → Option WinKind
  | 1 => some .image
  | 2 => some .command
  | 3 => some .eventRing
  | 4 => some .outbox
  | 5 => some .guarded
  | _ => none

/-- The lengths a kind allows (R157). -/
def WinKind.allows : WinKind → Nat → Bool
  | .image, n => n == 4
  | .command, n => n == 1
  | .eventRing, n => 1 ≤ n && n ≤ 32
  | .outbox, n => 1 ≤ n && n ≤ 8
  | .guarded, n => 1 ≤ n && n ≤ 256

def Descriptor.toWindow (d : Descriptor) : Option Window :=
  (kindOfCode d.kind).map fun k => ⟨k, d.base, d.units⟩

/-- Two windows share no byte. -/
def Window.disjoint (x y : Window) : Bool :=
  x.base + x.units ≤ y.base || y.base + y.units ≤ x.base

def allDisjoint : List Window → Bool
  | [] => true
  | w :: ws => ws.all (w.disjoint ·) && allDisjoint ws

def countKind (ws : List Window) (k : WinKind) : Nat := (ws.filter fun w => w.kind == k).length

/-- The rules on a window list (R157, R184): lengths, bases, the end of memory, one window of each kind but GUARDED, and
no byte shared. A base is a multiple of 256 by its unit. -/
def windowsLegal (ws : List Window) : Bool :=
  ws.all (fun w => w.kind.allows w.units && w.base ≤ 0xFFF && w.base + w.units ≤ 0x1000)
  && countKind ws .image == 1 && countKind ws .command == 1 && countKind ws .eventRing == 1
  && countKind ws .outbox == 1 && countKind ws .guarded ≤ 4 && allDisjoint ws

def insertWindow (w : Window) : List Window → List Window
  | [] => [w]
  | x :: xs => if w.base ≤ x.base then w :: x :: xs else x :: insertWindow w xs

/-- The window table sorted by base (R184). -/
def sortWindows : List Window → List Window
  | [] => []
  | w :: ws => insertWindow w (sortWindows ws)

/-- What a valid block gives. -/
structure BlockValues where
  settings : Settings
  table : Vector WarnEntry 4
  windows : List Window
  deriving DecidableEq, Repr

def inRange (lo hi n : Nat) : Bool := lo ≤ n && n ≤ hi

/-- The sequence timers of a block, at offsets 14h to 25h. -/
def blockTimers (ws : List Word) : Timers where
  amber := blockWord ws 0x14
  redWarn := blockWord ws 0x16
  entryLimit := blockWord ws 0x18
  exitLimit := blockWord ws 0x1A
  raiseLimit := blockWord ws 0x1C
  clearSettle := blockWord ws 0x1E
  clearLimit := blockWord ws 0x20
  minClosed := blockWord ws 0x22
  flashPeriod := blockWord ws 0x24

def blockSettings (ws : List Word) : Settings where
  address := blockByte ws 6
  rate := (blockByte ws 7).toNat
  linkTimeout := blockWord ws 8
  spacing := blockWord ws 0xA
  trainGap := blockWord ws 0xC
  restartTimeout := blockWord4 ws 0xE
  secondWindow := blockWord ws 0x12
  timers := blockTimers ws

/-- Approach Wn of a block at 26h + 6n, warning time and overdue margin from 100 ms units (R181). -/
def blockEntry (ws : List Word) (n : Nat) : WarnEntry :=
  ⟨blockWord ws (0x26 + 6 * n), 100 * blockWord ws (0x28 + 6 * n), 100 * blockWord ws (0x2A + 6 * n)⟩

def blockTable (ws : List Word) : Vector WarnEntry 4 :=
  #v[blockEntry ws 0, blockEntry ws 1, blockEntry ws 2, blockEntry ws 3]

/-- The ranges of R71. -/
def Timers.inRange (t : Timers) : Bool :=
  Machine.inRange 2000 6000 t.amber && Machine.inRange 3000 10000 t.redWarn && Machine.inRange 4000 15000 t.entryLimit
  && Machine.inRange 4000 15000 t.exitLimit && Machine.inRange 4000 15000 t.raiseLimit
  && Machine.inRange 1000 5000 t.clearSettle && Machine.inRange 10000 60000 t.clearLimit
  && Machine.inRange 0 30000 t.minClosed && Machine.inRange 800 1200 t.flashPeriod

/-- The ranges of R181 for the settings, the warning times held to their upper bound alone (R183). -/
def Settings.inRange (x : Settings) : Bool :=
  Machine.inRange 1 250 x.address.toNat && Machine.inRange 0 4 x.rate && Machine.inRange 3000 30000 x.linkTimeout
  && Machine.inRange 100 400 x.spacing && Machine.inRange 2000 10000 x.trainGap
  && Machine.inRange 30000 300000 x.restartTimeout && Machine.inRange 0 60000 x.secondWindow && x.timers.inRange

def WarnEntry.inRange (w : WarnEntry) : Bool :=
  Machine.inRange 200 4000 w.distance && w.warning ≤ 120000 && Machine.inRange 10000 300000 w.margin

/-- The first three tests of R183, over the header words. -/
def headerFault (ws : List Word) : Option BadBlock :=
  if ws.getD 0 0 ≠ 0x4C8A then some .marker
  else if ws.getD 1 0 ≠ 1 then some .version
  else if blockLength ws % 2 ≠ 0 || blockLength ws < 64 || 512 < blockLength ws then some .length
  else none

/-- The windows of a block, if its descriptors meet R184. -/
def blockWindows (ws : List Word) : Option (List Window) :=
  match readDescriptors ws (blockLength ws - 2) 8 0x3E with
  | none => none
  | some ds =>
    let wins := ds.filterMap Descriptor.toWindow
    if wins.length = ds.length && windowsLegal wins then some wins else none

/-- Judge a block by the seven tests of R183, in order. -/
def judgeBlock (ws : List Word) : Except BadBlock BlockValues :=
  match headerFault ws with
  | some r => .error r
  | none =>
    let len := blockLength ws
    let cover := (ws.take (len / 2 - 1)).flatMap wordBytes
    if check16 cover ≠ ws.getD (len / 2 - 1) 0 then .error .check
    else if !((blockSettings ws).inRange && (blockTable ws).toList.all WarnEntry.inRange) then .error .range
    else
      match blockWindows ws with
      | none => .error .windows
      | some wins =>
        if (blockTable ws).toList.any fun w => w.warning < (blockTimers ws).sequenceMinimum then .error .warning
        else .ok ⟨blockSettings ws, blockTable ws, sortWindows wins⟩

/-! ## Command slots (12_formats.md, Structures in host memory) -/

/-- The trigger word of a command kind and a tag: the kind in the low byte, the tag in the high byte. -/
def triggerWord (kind : Nat) (tag : Byte) : Word := wordOf (byte kind) tag

end Sys2Proof.Machine
end

