-- ==== Sys2Proof/Machine/Ops.lean ====
section
/-! DEFINITION. The shared operations: the downstream port and its claims, event staging, the report queue, the fault table,
timed events, and the context one event works in. -/

namespace Sys2Proof.Machine

/-! ## The Memory Port Arbiter (R163, R164) -/

def Bus.claimOf (b : Bus) : Claimant → Option Claim
  | .upstream => none
  | .ring => b.ringClaim
  | .loader => b.loaderClaim
  | .outbox => b.outboxClaim

def Bus.setClaim (b : Bus) (w : Claimant) (c : Option Claim) : Bus :=
  match w with
  | .upstream => b
  | .ring => { b with ringClaim := c }
  | .loader => { b with loaderClaim := c }
  | .outbox => { b with outboxClaim := c }

/-- The internal order (R163). -/
def internalOrder : List Claimant := [.ring, .loader, .outbox]

/-- The downstream form of an upstream access (R156). -/
def HostAccess.toMem (a : HostAccess) : MemAccess where
  addr := a.addr.toNat
  write := a.write
  bytes := if a.word then 2 else 1
  data := if a.write then (if a.word then wordBytes a.data else [loByte a.data]) else []

/-- Grant a waiting internal claim. -/
def Bus.grantInternal (b : Bus) (w : Claimant) : Bus :=
  match b.claimOf w with
  | some c => { b.setClaim w none with port := some ⟨w, c.acc⟩ }
  | none => b

def bumpClaim (c : Option Claim) : Option Claim := c.map fun c => { c with wait := c.wait + 1 }

/-- Grant the upstream claim; each waiting internal claim's wait count rises by one (R163). -/
def Bus.grantUpstream (b : Bus) (u : Upstream) : Bus :=
  { b with
    up := some { u with phase := .granted }
    port := some ⟨.upstream, u.acc.toMem⟩
    ringClaim := bumpClaim b.ringClaim
    loaderClaim := bumpClaim b.loaderClaim
    outboxClaim := bumpClaim b.outboxClaim }

/-- The upstream access that waits for the port, if any. -/
def Bus.waitingUp (b : Bus) : Option Upstream :=
  match b.up with
  | some u => if u.phase = .waiting then some u else none
  | none => none

/-- R163's grant: a due claim, else the upstream claim, else the first internal claim; nothing while the port is busy. -/
def Bus.grant (b : Bus) : Bus :=
  if b.port.isSome then b
  else
    match internalOrder.find? fun w => (b.claimOf w).any fun c => Config.dueCount ≤ c.wait with
    | some w => b.grantInternal w
    | none =>
      match b.waitingUp with
      | some u => b.grantUpstream u
      | none =>
        match internalOrder.find? fun w => (b.claimOf w).isSome with
        | some w => b.grantInternal w
        | none => b

/-- An internal block claims the port; a free port is granted in the same event (R163, R164). -/
def Bus.claim (b : Bus) (w : Claimant) (a : MemAccess) : Bus := (b.setClaim w (some ⟨a, 0⟩)).grant

/-- The access on the port has completed and the claims of the completion event are made: free the port and grant. -/
def Bus.release (b : Bus) : Bus := { b with port := none }.grant

/-- The port is busy with an access of this claimant. -/
def Bus.portIs (b : Bus) (w : Claimant) : Bool := b.port.any fun p => p.who == w

/-! ## The Event Ring Writer (R175 to R179) -/

/-- One event arrives at the staging queue: R175's table. -/
def Ring.arrive (r : Ring) (now : Time) (e : EventBody) : Ring :=
  if r.missed = 0 then
    if r.staging.length < Config.stagingCapacity then { r with staging := r.staging ++ [⟨now, e⟩] }
    else { r with missed := 1 }
  else if r.staging.length + 2 ≤ Config.stagingCapacity then
    { r with staging := r.staging ++ [⟨now, .gap r.missed now⟩, ⟨now, e⟩], missed := 0 }
  else { r with missed := min 65535 (r.missed + 1) }

/-- The record write of the oldest staged event into slot P (R177). -/
def recordWrite (w : Window) (r : Ring) (e : Event) : MemAccess :=
  ⟨w.first + 16 + 16 * r.producer, true, 16, e.record⟩

/-- A write of one word by the part. -/
def wordWrite (addr value : Nat) : MemAccess := ⟨addr, true, 2, bytes2 value⟩

/-- P plus one, modulo the capacity. -/
def nextIndex (cap i : Nat) : Nat := (i + 1) % cap

/-- In IDLE, with an event staged and space in the ring, the writer becomes RECORD and claims the record write (R177). -/
def Bus.ringStart (b : Bus) : Bus :=
  match windowOf b.windows .eventRing, b.ring.staging with
  | some w, e :: _ =>
    if b.ring.state = .idle && b.ring.hasSpace (ringCapacity w) then
      { b with ring := { b.ring with state := .record } }.claim .ring (recordWrite w b.ring e)
    else b
  | _, _ => b

/-- Stage one event: it arrives at the queue, and an idle writer starts on it. -/
def Bus.stage (b : Bus) (now : Time) (e : EventBody) : Bus :=
  { b with ring := b.ring.arrive now e }.ringStart

def State.stage (s : State) (e : EventBody) : State := { s with bus := s.bus.stage s.now e }

/-- The three header writes to a new event ring (R179): capacity, consumer 0, producer 0. -/
def headerWrite (w : Window) : Nat → MemAccess
  | 0 => wordWrite (w.first + 4) (ringCapacity w)
  | 1 => wordWrite (w.first + 2) 0
  | _ => wordWrite w.first 0

/-! ## The Outbox Reader (R128, R130, R131) -/

/-- The fetch of the record at the consumer index: 32 bytes (R130). -/
def fetchAccess (w : Window) (o : Outbox) : MemAccess := ⟨w.first + 32 + 32 * o.consumer, false, 32, []⟩

/-- The consumer word is written by the part (R131). -/
def consumerWrite (w : Window) (o : Outbox) : MemAccess := wordWrite (w.first + 2) o.consumer

/-- The Reader starts a fetch when all of R130 holds. -/
def Bus.fetchStart (b : Bus) (hosts : Nat) : Bus :=
  match windowOf b.windows .outbox with
  | some w =>
    if b.outbox.state = .idle && b.outbox.shadow ≠ b.outbox.consumer && hosts < Config.hostAllotment then
      { b with outbox := { b.outbox with state := .fetching } }.claim .outbox (fetchAccess w b.outbox)
    else b
  | none => b

def State.fetchStart (s : State) : State := { s with bus := s.bus.fetchStart (hostEntries s.queue) }

/-! ## Time (log 2, log 3) -/

/-- A timed event: it happens at its timer's expiry time, or at once when that has passed; a stopped timer, or one whose time
lies beyond the end of the run, gives no event. -/
def State.onExpiry (s : State) (due : Option Time) (k : State → State) : State :=
  match due with
  | none => s
  | some d => if d < Config.runEnd then k { s with now := max s.now d } else s

/-- An event of a running part; in part reset nothing happens (log 4). -/
def State.whenRunning (s : State) (k : State → State) : State := if s.running then k s else s

/-! ## The Report Queue (R122 to R127) -/

/-- The entry stands for the same subject as a content (R123); host reports are not keyed. -/
def Entry.sameSubject (e : Entry) (c : Content) : Bool :=
  match c with
  | .host .. => false
  | _ => e.content.origin == c.origin && e.content.key == c.key

/-- The class a report joins with (R116, R120, R55). -/
def joinClass (c : Content) (entersFailed : Bool) : Class :=
  match c with
  | .fault p .. => pointClass p
  | .crossing .. => if entersFailed then .urgent else .info
  | .train _ _ _ _ k .. => if k.urgent then .urgent else .alert
  | .host .. => .info

/-- The content after an update: the kinds of a train entry join those sent (R124). -/
def updatedContent (old new : Content) : Content :=
  match old, new with
  | .train _ _ _ _ k .., .train i g t sd k' st w tm => .train i g t sd (k.merge k') st w tm
  | _, new => new

/-- The class after an update (R124). -/
def updatedClass (old : Class) (c : Content) (entersFailed : Bool) : Class :=
  match c with
  | .fault p .. => pointClass p
  | .crossing .. => if entersFailed then .urgent else old
  | .train _ _ _ _ k .. => if k.urgent then .urgent else old
  | .host .. => old

def Entry.update (e : Entry) (c : Content) (entersFailed : Bool) : Entry :=
  let c' := updatedContent e.content c
  { e with content := c', cls := updatedClass e.cls c' entersFailed, changed := e.sent.isSome || e.changed }

/-- Send a report: it updates the entry of its subject in place, or joins at the tail (R123, R124). -/
def sendReport (c : Content) (entersFailed : Bool) : List Entry → List Entry
  | [] => [⟨c, joinClass c entersFailed, none, false⟩]
  | e :: es =>
    if e.sameSubject c then e.update c entersFailed :: es
    else e :: sendReport c entersFailed es

/-- A host report joins with its record's class (R131). -/
def joinHost (q : List Entry) (c : Content) (cls : Class) : List Entry := q ++ [⟨c, cls, none, false⟩]

def Class.rank : Class → Nat
  | .urgent => 0 | .alert => 1 | .info => 2

/-- The highest class present (R125). -/
def bestRank : List Entry → Nat
  | [] => 3
  | e :: es => min e.cls.rank (bestRank es)

/-- Put into air the first entry of a class rank. -/
def goIntoAir (rank : Nat) : List Entry → List Entry
  | [] => []
  | e :: es =>
    if e.cls.rank = rank then { e with sent := some ⟨e.content, e.cls⟩, changed := false } :: es
    else e :: goIntoAir rank es

def inAir (q : List Entry) : Option Entry := q.find? fun e => e.sent.isSome

/-- A report is asked for: the queue after the request and what is offered (R125). -/
def requestReport (q : List Entry) : List Entry × Option Sent :=
  match inAir q with
  | some e => (q, e.sent)
  | none =>
    let q' := goIntoAir (bestRank q) q
    (q', (inAir q').bind (·.sent))

/-- The entry in air is acknowledged: removed, or requeued at the tail when changed since sent (R126). -/
def ackReport (q : List Entry) : List Entry :=
  match inAir q with
  | none => q
  | some e =>
    let rest := q.filter fun x => !x.sent.isSome
    if e.changed then rest ++ [{ e with sent := none, changed := false }] else rest

/-- The entry in air returns from air, keeping its content, class and place (R127). -/
def returnFromAir (q : List Entry) : List Entry :=
  q.map fun e => if e.sent.isSome then { e with sent := none, changed := false } else e

/-! ## The context of one event -/

/-- A condition notice to the Fault Supervisor (R111). -/
structure Notice where
  point : Point
  present : Bool
  cause : Option Cause
  deriving DecidableEq, Repr

/-- What one event gathers while the blocks do their work: the state as it stands, and the work the spec puts at the end
of the event (condition notices R121, demands of a hand-over, deadline notices R69, maintenance exit R100, the
crossing-state report R120, train reports R122). Nothing of it outlives the event. -/
structure Ctx where
  s : State
  notices : List Notice
  demands : List (DemandKey × Bool)
  exit : Option ExitCause
  /-- The Sequence Controller has given notice of an entry to OPEN or CLOSED (R101). -/
  openClosed : Bool
  modeChanged : Bool
  /-- The mode has changed to FAILED in this event (R120). -/
  enteredFailed : Bool
  leftMaint : Bool
  trains : List Content
  deriving DecidableEq, Repr

def Ctx.start (s : State) : Ctx := ⟨s, [], [], none, false, false, false, false, []⟩

def Ctx.map (c : Ctx) (f : State → State) : Ctx := { c with s := f c.s }
def Ctx.stage (c : Ctx) (e : EventBody) : Ctx := { c with s := c.s.stage e }
def Ctx.modSeq (c : Ctx) (f : Sequence → Sequence) : Ctx := { c with s := { c.s with seq := f c.s.seq } }
def Ctx.modPrv (c : Ctx) (f : Proving → Proving) : Ctx := { c with s := { c.s with prv := f c.s.prv } }
def Ctx.modFlt (c : Ctx) (f : Faults → Faults) : Ctx := { c with s := { c.s with flt := f c.s.flt } }
def Ctx.modTrk (c : Ctx) (f : Tracker → Tracker) : Ctx := { c with s := { c.s with trk := f c.s.trk } }
def Ctx.modQueue (c : Ctx) (f : List Entry → List Entry) : Ctx := { c with s := { c.s with queue := f c.s.queue } }

/-- Give the Fault Supervisor a condition notice, taken when it does its work in this event. -/
def Ctx.notice (c : Ctx) (p : Point) (present : Bool) (cause : Option Cause) : Ctx :=
  { c with notices := c.notices ++ [⟨p, present, cause⟩] }

/-- Do `f` for each member of a list in turn. -/
def Ctx.forEach {α : Type} (c : Ctx) (l : List α) (f : Ctx → α → Ctx) : Ctx := l.foldl f c

/-! ## The Fault Supervisor (R113 to R121) -/

/-- Report a point's entry as it stands (R116). -/
def faultContent (p : Point) (e : FaultEntry) : Content := .fault p e.state e.count e.firstRaised e.lastChange e.cause

/-- Send a point's report unless it is FP30 or its in-maintenance flag is set (R116, R117, R118). -/
def Ctx.reportPoint (c : Ctx) (p : Point) : Ctx :=
  let e := c.s.flt.table[p]
  if p = fpLink || e.inMaint then c
  else c.modQueue (sendReport (faultContent p e) false)

/-- The entry after an arising (R113, R117, R118); none when the state has no arising. -/
def FaultEntry.arise (e : FaultEntry) (now : Time) (cause : Option Cause) (flag : Bool) : Option FaultEntry :=
  match e.state with
  | .healthy =>
    some { e with
      state := .faulty, count := min 255 (e.count + 1), firstRaised := some now, lastChange := some now, cause := cause
      inMaint := flag || e.inMaint }
  | .clearedUnacked =>
    some { e with state := .faulty, count := min 255 (e.count + 1), lastChange := some now, cause := cause }
  | .faulty | .faultyAcked => none

/-- The entry after the going of its condition (R113); FP30 goes straight to HEALTHY (R117). -/
def FaultEntry.go (e : FaultEntry) (now : Time) (straight : Bool) : Option FaultEntry :=
  match e.state with
  | .faulty => some { e with state := if straight then .healthy else .clearedUnacked, lastChange := some now }
  | .faultyAcked => some { e with state := .healthy, lastChange := some now }
  | .healthy | .clearedUnacked => none

/-- The entry after an admitted acknowledgement; none when it is not acknowledgeable (R114). -/
def FaultEntry.ack (e : FaultEntry) (now : Time) : Option FaultEntry :=
  match e.state with
  | .faulty => some { e with state := .faultyAcked, lastChange := some now }
  | .clearedUnacked => some { e with state := .healthy, lastChange := some now }
  | .healthy | .faultyAcked => none

def Ctx.setEntry (c : Ctx) (p : Point) (e : FaultEntry) : Ctx :=
  c.modFlt fun f => { f with table := put f.table p e }

/-- The Supervisor takes one notice: the entry's change, then its event, then its report (R111, R113, R121). A notice that
repeats the present value changes nothing. -/
def Ctx.takeNotice (c : Ctx) (n : Notice) : Ctx :=
  if c.s.flt.present[n.point] = n.present then c
  else
    let c := c.modFlt fun f => { f with present := put f.present n.point n.present }
    let e := c.s.flt.table[n.point]
    if n.present then
      match e.arise c.s.now n.cause (c.s.flt.mode == .maintenance && n.point != fpLink) with
      | none => c
      | some e' =>
        (((c.setEntry n.point e').stage (.faultRaised n.point e.state e'.state e'.count e'.cause))).reportPoint n.point
    else
      match e.go c.s.now (n.point == fpLink) with
      | none => c
      | some e' =>
        (((c.setEntry n.point e').stage (.faultCleared n.point e.state e'.state e'.count))).reportPoint n.point

/-- Re-derive the mode; a change stages MODE (R119, R121). -/
def Ctx.deriveMode (c : Ctx) : Ctx :=
  let old := c.s.flt.mode
  let new := modeOf c.s.seq c.s.flt
  if new = old then c
  else
    { (c.modFlt fun f => { f with mode := new }).stage (.mode old new) with
      modeChanged := true
      enteredFailed := c.enteredFailed || new == .failed
      leftMaint := c.leftMaint || old == .maintenance }

/-- The notices in point order, those of one point in the order they came (R121). -/
def inPointOrder (ns : List Notice) : List Notice :=
  allPoints.flatMap fun p => ns.filter fun n => n.point == p

/-- The Supervisor takes the points noticed so far, in point order (R121). Where a rule puts some points ahead of the other
work of their event (R93, R152, R186) they are taken there (log 12). -/
def Ctx.takePoints (c : Ctx) : Ctx :=
  let ns := inPointOrder c.notices
  { c with notices := [] }.forEach ns Ctx.takeNotice

/-- The Supervisor's work at the end of an event: the points in order, then the mode once (R121, log 12). -/
def Ctx.faultWork (c : Ctx) : Ctx := c.takePoints.deriveMode

/-- Acknowledge a point (R114): none when it is not acknowledgeable, FP30 included (R117). -/
def Ctx.acknowledge (c : Ctx) (p : Point) (who : Acker) : Option Ctx :=
  if p = fpLink then none
  else
    let e := c.s.flt.table[p]
    match e.ack c.s.now with
    | none => none
    | some e' => some (((c.setEntry p e').stage (.faultAcked p e.state e'.state e'.count who)).reportPoint p)

/-- The crossing-state report, as the state stands (R120). -/
def crossingContent (s : State) : Content :=
  .crossing s.seq.state s.flt.mode s.seq.proven (unhealthyCount s.flt) s.now

/-- Clear an entry's in-maintenance flag at the exit and send its report unless it is HEALTHY (R118). -/
def Ctx.unflag (c : Ctx) (p : Point) : Ctx :=
  let e := c.s.flt.table[p]
  if e.inMaint then
    let c := c.setEntry p { e with inMaint := false }
    if e.state = .healthy then c else c.reportPoint p
  else c

/-- The reports that close an event (R118, R120, R122): the crossing-state report once, then the flagged entries at a
maintenance exit, then the train reports. -/
def Ctx.closeReports (c : Ctx) : Ctx :=
  let c := if c.modeChanged || c.openClosed then c.modQueue (sendReport (crossingContent c.s) c.enteredFailed) else c
  let c := if c.leftMaint then c.forEach allPoints Ctx.unflag else c
  c.forEach c.trains fun c x => c.modQueue (sendReport x false)

end Sys2Proof.Machine
end

