-- ==== Sys2Proof/Machine/Closing.lean ====
section
/-! DEFINITION. The crossing state and its outputs: lamps, flasher, drives, the transitions of the closing sequence, the
demand set, maintenance exit, and the settling of one event (05_the_closing_sequence.md). -/

namespace Sys2Proof.Machine

/-! ## Lamps and flasher (R75, R94, R107) -/

/-- Start an item's check timer from its full length (R107). -/
def Proving.startCheck (p : Proving) (now : Time) (i : Lamp) : Proving :=
  { p with lamps := upd p.lamps i fun l => { l with checkDue := some (now + Config.lampSettle) } }

/-- Change an item's command: the check timer starts in each event that changes it (R107, R108). -/
def Ctx.setLamp (c : Ctx) (i : Lamp) (cmd : LampCmd) : Ctx :=
  if c.s.seq.lamps[i] = cmd then c
  else
    (c.modSeq fun q => { q with lamps := put q.lamps i cmd }).modPrv fun p =>
      { p with lamps := upd p.lamps i fun l =>
          { l with checkDue := some (c.s.now + Config.lampSettle), expired := false } }

/-- The timers of all four reds start at each flasher start and phase change (R107). -/
def Ctx.startReds (c : Ctx) : Ctx :=
  c.forEach reds fun c i => c.modPrv fun p => p.startCheck c.s.now i

/-- Start or stop the flasher by whether any red is commanded to flash (R94). -/
def Ctx.syncFlasher (c : Ctx) : Ctx :=
  if reds.any fun i => c.s.seq.lamps[i] == .flash then
    match c.s.seq.flasher with
    | some _ => c
    | none =>
      (c.modSeq fun q =>
        { q with flasher := some ⟨false, 2 * c.s.now + c.s.settings.timers.flashPeriod⟩ }).startReds
  else c.modSeq fun q => { q with flasher := none }

/-- The lamp and audible commands of a crossing state outside TEST (R75). -/
structure RoadOutputs where
  amber : LampCmd
  red : LampCmd
  audible : Bool
  deriving DecidableEq, Repr

def roadOutputs : Crossing → RoadOutputs
  | .starting => ⟨.dark, .dark, false⟩
  | .startClose => ⟨.dark, .flash, false⟩
  | .opened => ⟨.dark, .dark, false⟩
  | .amber => ⟨.lit, .dark, true⟩
  | .redWarn => ⟨.dark, .flash, true⟩
  | .entryLower => ⟨.dark, .flash, true⟩
  | .clearance => ⟨.dark, .flash, false⟩
  | .exitLower => ⟨.dark, .flash, false⟩
  | .closed => ⟨.dark, .flash, false⟩
  | .raising => ⟨.dark, .flash, false⟩
  | .test => ⟨.dark, .dark, false⟩

/-- Command the road lamps and audible warnings of a crossing state (R75). -/
def Ctx.setRoad (c : Ctx) (x : Crossing) : Ctx :=
  let o := roadOutputs x
  let c := (c.setLamp 0 o.amber).setLamp 3 o.amber
  let c := c.forEach reds fun c i => c.setLamp i o.red
  (c.modSeq fun q => { q with audible := #v[o.audible, o.audible] }).syncFlasher

/-! ## Boom drives (R92, R103, R106) -/

def DriveOut.ofTarget : Target → DriveOut
  | .raise => .raise
  | .lower => .lower

/-- A drive is handed a target: R92's table. -/
def Drive.hand (d : Drive) (t : Target) (now : Time) : Drive :=
  match d.output with
  | .hold => { d with target := t }
  | .raise => if t = .raise then { d with target := t } else ⟨.hold, t, some (now + Config.reversalPause)⟩
  | .lower => if t = .lower then { d with target := t } else ⟨.hold, t, some (now + Config.reversalPause)⟩

/-- Mask a boom's contacts for one settle time: its settle timers stop (R103). -/
def Proving.maskBoom (p : Proving) (b : Boom) (now : Time) : Proving :=
  let stop := fun (k : Contact) => { k with due := none }
  { p with
    masks := put p.masks b (some (now + Config.contactSettle))
    contacts := upd (upd (upd p.contacts (upContact b) stop) (downContact b) stop) (intactContact b) stop }

/-- The test by which a boom's condition goes (R106). -/
def Ctx.boomGoTest (c : Ctx) (b : Boom) : Ctx :=
  if c.s.prv.booms[b].isSome && atCommandedEnd c.s.prv c.s.seq b then
    (c.modPrv fun p => { p with booms := put p.booms b none }).notice (boomPoint b) false none
  else c

/-- A boom's cause is met: the condition arises with it unless it is present already (R105). -/
def Ctx.boomCause (c : Ctx) (b : Boom) (x : BoomCause) : Ctx :=
  if c.s.prv.booms[b].isSome then c
  else (c.modPrv fun p => { p with booms := put p.booms b (some x) }).notice (boomPoint b) true (some (.boom x))

/-- Hand a boom's drive a target (R92): a drive leaving LOWER is re-energized and its contacts are masked (R103), and a
changed target makes the test of R106. -/
def Ctx.handTarget (c : Ctx) (b : Boom) (t : Target) : Ctx :=
  let d := c.s.seq.drives[b]
  let d' := d.hand t c.s.now
  let c := c.modSeq fun q => { q with drives := put q.drives b d' }
  let c := if d.output = .lower ∧ d'.output = .hold then c.modPrv fun p => p.maskBoom b c.s.now else c
  if d.target = t then c else c.boomGoTest b

def Ctx.handAll (c : Ctx) (bs : List Boom) (t : Target) : Ctx := c.forEach bs fun c b => c.handTarget b t

/-- The arrest of R91: a drive that is RAISE goes to HOLD with its target RAISE; one in HOLD keeps target and pause. -/
def Drive.arrest (d : Drive) (now : Time) : Drive :=
  match d.output with
  | .raise => ⟨.hold, .raise, some (now + Config.reversalPause)⟩
  | .hold | .lower => d

def Ctx.arrestBoom (c : Ctx) (b : Boom) : Ctx :=
  c.modSeq fun q => { q with drives := upd q.drives b fun d => d.arrest c.s.now }

/-! ## Crossing states (R75 to R91) -/

/-- Enter a crossing state: CROSSING_STATE with closure proven as it stands after the change, the notice of an entry to
OPEN or CLOSED, and the going of FP27 on leaving CLEARANCE (R84, R95, R101). -/
def Ctx.changeTo (c : Ctx) (x : Crossing) : Ctx :=
  let before := c.s.seq.state
  let c := c.modSeq fun q => { q with state := x, entered := c.s.now }
  let c := c.modSeq fun q => { q with proven := closureHolds q c.s.prv }
  let c := c.stage (.crossingState before x c.s.now c.s.seq.proven)
  let c := if x = .opened ∨ x = .closed then { c with openClosed := true } else c
  if before = .clearance then c.notice fpObstructed false none else c

def Ctx.after (c : Ctx) (n : Nat) : Option Time := some (c.s.now + n)

/-- OPEN to AMBER at the first demand (R78). -/
def Ctx.enterAmber (c : Ctx) : Ctx :=
  ((c.changeTo .amber).setRoad .amber).modSeq fun q => { q with amberDue := c.after c.s.settings.timers.amber }

/-- AMBER to RED_WARN (R79). -/
def Ctx.enterRedWarn (c : Ctx) : Ctx :=
  ((c.changeTo .redWarn).setRoad .redWarn).modSeq fun q =>
    { q with amberDue := none, redWarnDue := c.after c.s.settings.timers.redWarn }

/-- The entry to CLEARANCE: the clearance limit starts, and the settle timer if the detector shows CLEAR (R81, R83, R84). -/
def Ctx.enterClearance (c : Ctx) : Ctx :=
  ((c.changeTo .clearance).setRoad .clearance).modSeq fun q =>
    { q with
      entryDue := none
      clearLimitDue := c.after c.s.settings.timers.clearLimit
      settleDue := if c.s.prv.detector = .clear then c.after c.s.settings.timers.clearSettle else none }

/-- ENTRY_LOWER goes on to CLEARANCE in its own event when both entry booms are DOWN already (R81). -/
def Ctx.entryDownTest (c : Ctx) : Ctx :=
  if c.s.seq.state = .entryLower && c.s.prv.allAt entryBooms .down then c.enterClearance else c

/-- RED_WARN to ENTRY_LOWER (R80, R81). -/
def Ctx.enterEntryLower (c : Ctx) : Ctx :=
  let t := c.after c.s.settings.timers.entryLimit
  let c := (c.changeTo .entryLower).setRoad .entryLower
  let c := c.handAll entryBooms .lower
  (c.modSeq fun q => { q with redWarnDue := none, entryDue := t }).entryDownTest

/-- The entry to CLOSED less the opening check (R88). A min closed time of 0 expires in the entry event itself. -/
def Ctx.closeCore (c : Ctx) : Ctx :=
  let n := c.s.settings.timers.minClosed
  let c := ((c.changeTo .closed).setRoad .closed).handAll allBooms .lower
  c.modSeq fun q =>
    { q with
      entryDue := none, exitDue := none, raiseDue := none
      minClosedDue := if n = 0 then none else some (c.s.now + n) }

/-- A demand ends the raising (R91): back to CLOSED while every boom is DOWN, else to ENTRY_LOWER with the exits arrested.
The opening check of the entry to CLOSED fails by the demand that stands. -/
def Ctx.interruptRaising (c : Ctx) : Ctx :=
  if c.s.prv.allAt allBooms .down then c.closeCore
  else
    let t := c.after c.s.settings.timers.entryLimit
    let c := (c.changeTo .entryLower).setRoad .entryLower
    let c := c.handAll entryBooms .lower
    let c := c.forEach exitBooms Ctx.arrestBoom
    (c.modSeq fun q => { q with raiseDue := none, entryDue := t }).entryDownTest

/-- RAISING to OPEN (R90). -/
def Ctx.enterOpen (c : Ctx) : Ctx :=
  ((c.changeTo .opened).setRoad .opened).modSeq fun q => { q with raiseDue := none }

/-- The entry to RAISING (R90): with a demand standing R91 applies in the same event; with every boom UP already and no
demand the state is OPEN. -/
def Ctx.enterRaising (c : Ctx) : Ctx :=
  let t := c.after c.s.settings.timers.raiseLimit
  let c := ((c.changeTo .raising).setRoad .raising).handAll allBooms .raise
  let c := c.modSeq fun q => { q with minClosedDue := none, raiseDue := t }
  if !c.s.seq.demands.isEmpty then c.interruptRaising
  else if c.s.prv.allAt allBooms .up then c.enterOpen
  else c

/-- What the opening check asks (R89): CLOSED, no demand, min closed expired, no record imminent. -/
def openingPasses (s : State) : Bool :=
  s.seq.state == .closed && s.seq.demands.isEmpty && s.seq.minClosedDue.isNone
  && !anyImminent s.trk s.now s.settings.secondWindow

/-- The opening check (R89). -/
def Ctx.openingCheck (c : Ctx) : Ctx := if openingPasses c.s then c.enterRaising else c

/-- The entry to CLOSED (R88), with its opening check. -/
def Ctx.enterClosed (c : Ctx) : Ctx := c.closeCore.openingCheck

/-- CLEARANCE to EXIT_LOWER, and on to CLOSED when both exit booms are DOWN already (R86). -/
def Ctx.enterExitLower (c : Ctx) : Ctx :=
  let t := c.after c.s.settings.timers.exitLimit
  let c := ((c.changeTo .exitLower).setRoad .exitLower).handAll exitBooms .lower
  let c := c.modSeq fun q => { q with settleDue := none, clearLimitDue := none, exitDue := t }
  if c.s.prv.allAt exitBooms .down then c.enterClosed else c

/-- STARTING to START_CLOSE, and on to CLOSED when every boom is DOWN already (R76, R77). -/
def Ctx.enterStartClose (c : Ctx) : Ctx :=
  let t := c.after c.s.settings.timers.entryLimit
  let c := ((c.changeTo .startClose).setRoad .startClose).modSeq fun q => { q with entryDue := t }
  if c.s.prv.allAt allBooms .down then c.enterClosed else c

/-! ## The demand set (R73) -/

/-- A raise request: a new demand joins, stages DEMAND_ON, and acts by the crossing state (R73, R78, R91). -/
def Ctx.raise (c : Ctx) (k : DemandKey) : Ctx :=
  if (c.s.seq.demands.get k).isSome then c
  else
    let t := c.s.now
    let c := (c.modSeq fun q => { q with demands := q.demands.set k (some t) }).stage (.demandOn k t)
    match c.s.seq.state with
    | .opened => c.enterAmber
    | .raising => c.interruptRaising
    | _ => c

/-- A withdrawal request: a standing demand leaves, stages DEMAND_OFF, and in CLOSED the opening check is made (R73, R89). -/
def Ctx.withdraw (c : Ctx) (k : DemandKey) : Ctx :=
  if (c.s.seq.demands.get k).isNone then c
  else
    ((c.modSeq fun q => { q with demands := q.demands.set k none }).stage (.demandOff k c.s.now)).openingCheck

/-- Ask for a demand to stand or not. -/
def Ctx.demand (c : Ctx) (k : DemandKey) (stands : Bool) : Ctx := if stands then c.raise k else c.withdraw k

/-- The RECORD demand of a slot follows its record (R54). -/
def Ctx.syncDemand (c : Ctx) (i : Slot) : Ctx :=
  c.demand (.record i) (match c.s.trk.recs[i] with | some r => r.holdsDemand | none => false)

/-! ## Maintenance exit (R100, R190) -/

/-- An exit cause reaches the Sequence Controller (R190): in TEST the first one ends maintenance and stages MAINT_EXIT; a
reload in flight is overtaken (R191). R100 is taken by `takeExit`, when the event's demands are in the set (log 13). -/
def Ctx.exitNotice (c : Ctx) (x : ExitCause) : Ctx :=
  if c.s.seq.state = .test ∧ c.exit = none then
    let c := c.stage (.maintExit x)
    { c with
      exit := some x
      s := { c.s with ldr := { c.s.ldr with load := c.s.ldr.load.map fun l =>
        if l.kind = .reload then { l with overtaken := true } else l } } }
  else c

/-- R100: the test settings and test travel limits go, and the state becomes RAISING. -/
def Ctx.takeExit (c : Ctx) : Ctx :=
  match c.exit with
  | none => c
  | some _ =>
    (({ c with exit := none }).modSeq fun q => { q with test := none, testDue := Vector.replicate 4 none }).enterRaising

/-! ## Closure proven and the driver's indicators at the end of an event (R95 to R97, R101) -/

/-- Re-derive closure proven; a change while CLOSED stages CROSSING_STATE with the same state before and after (R101). -/
def Ctx.deriveClosure (c : Ctx) : Ctx :=
  let new := closureHolds c.s.seq c.s.prv
  if new = c.s.seq.proven then c
  else
    let c := c.modSeq fun q => { q with proven := new }
    if c.s.seq.state = .closed then c.stage (.crossingState .closed .closed c.s.now new) else c

/-- Set or clear proceed shown on a record of the indicator's track (R51, R97). -/
def TrainRec.showProceed (r : TrainRec) (k : Track) (lit : Bool) (now timeout : Nat) : TrainRec :=
  if r.track ≠ k then r
  else if lit && r.awaitsProceed k then
    if r.proceedShown then r
    else { r with proceedShown := true, proceedTime := some now, restartDue := some (now + timeout) }
  else if r.proceedShown then { r with proceedShown := false, restartDue := none }
  else r

/-- Re-derive a driver's indicator and the proceed shown flags of its track (R96, R97). -/
def Ctx.deriveIndicator (c : Ctx) (k : Track) : Ctx :=
  let lit := indicatorLit c.s.seq c.s.flt c.s.trk k
  let c := c.setLamp (indicatorOf k) (if lit then .lit else .dark)
  c.forEach allSlots fun c i => c.modTrk fun t =>
    { t with recs := upd t.recs i fun r => r.map fun r =>
        r.showProceed k lit c.s.now c.s.settings.restartTimeout }

/-- The end of an event's work: a maintenance exit, the Fault Supervisor's work, closure proven, the indicators, and the
reports, in that order (log 12). -/
def Ctx.finish (c : Ctx) : Ctx :=
  (c.takeExit.faultWork.deriveClosure.forEach allTracks Ctx.deriveIndicator).closeReports

/-- Run one event's work on a state and settle it. -/
def State.event (s : State) (body : Ctx → Ctx) : State := (body (Ctx.start s)).finish.s

end Sys2Proof.Machine
end

