-- ==== Sys2Proof/Machine/HeadLine.lean ====
section
/-! DEFINITION. The Head Line Engine: slots, the reply window, and the outcome of a transaction (01_the_head_line.md). -/

namespace Sys2Proof.Machine

/-- The end of a transaction: the outcome record is formed from the polled head's record as it stands, and offered (R6). -/
def HeadLine.offer (l : HeadLine) (x : TxnOutcome) (reply : Option GoodReply) : HeadLine :=
  let r := l.recs[l.head]
  { l with
    phase := .idle
    chars := []
    charBad := false
    offered := some ⟨l.head, l.kind, x, r.state, r.heldAB, r.heldBA, reply⟩ }

/-- The next slot: the next head of the cycle is polled, with the kind chosen from its pending flag as it stands (R1, R2). -/
def HeadLine.beginSlot (l : HeadLine) (h : Head) (now : Time) : HeadLine :=
  let k : TxnKind := if l.recs[h].clearPending then .clearHalf else .read
  { l with
    phase := .poll
    head := h
    kind := k
    slotStart := now
    chars := []
    charBad := false
    pollFrame := Machine.pollFrame h k }

/-- The seven characters of a well-formed reply, read by R3 and R194. -/
def HeadLine.readReply (l : HeadLine) (cs : List Byte) (now : Time) : GoodReply where
  ab := cs.getD 1 0
  ba := cs.getD 2 0
  transit := wordOf (cs.getD 3 0) (cs.getD 4 0)
  sensorFault := (cs.getD 5 0).getLsbD 0
  halfNow := (cs.getD 5 0).getLsbD 1
  halfBefore := if l.kind = .clearHalf then false else l.recs[l.head].lastHalf
  time := now

/-- The outcome of a complete reply: GARBLED, then WRONG_HEAD, then GOOD (R4). -/
def HeadLine.decide (l : HeadLine) (cs : List Byte) (bad : Bool) (now : Time) : HeadLine :=
  if bad || cs.foldl (· + ·) 0 != 0 then l.offer .garbled none
  else if cs.getD 0 0 != byte (l.head.val + 1) then l.offer .wrongHead none
  else l.offer .good (some (l.readReply cs now))

/-- One character of the head line: it counts while the reply window is open, and the last of the reply decides (R3). -/
def HeadLine.character (l : HeadLine) (value : Byte) (bad : Bool) (now : Time) : HeadLine :=
  match l.phase with
  | .idle | .poll => l
  | .window =>
    let cs := l.chars ++ [value]
    let b := l.charBad || bad
    if cs.length < Config.replyLength then { l with chars := cs, charBad := b }
    else l.decide cs b now

def State.modLine (s : State) (f : HeadLine → HeadLine) : State := { s with line := f s.line }

/-- SLOT_START: 12 ms after the slot before, or at once when its outcome was taken later than that (R1, R2). -/
def execSlotStart (s : State) : Host.Outcome State Fault Refusal :=
  .next (s.whenRunning fun s =>
    if s.line.phase = .idle ∧ s.line.offered = none then
      s.onExpiry (some (s.line.slotStart + Config.slotLength)) fun s =>
        s.modLine fun l => l.beginSlot (l.head + 1) s.now
    else s)

/-- REPLY_WINDOW_OPEN: the window opens at the end of the poll; a break already present makes the transaction BROKEN (R1, R5). -/
def execReplyWindowOpen (brk : Bool) (s : State) : Host.Outcome State Fault Refusal :=
  .next (s.whenRunning fun s =>
    if s.line.phase = .poll then
      s.onExpiry (some (s.line.slotStart + Config.pollEnd)) fun s =>
        s.modLine fun l => if brk then l.offer .broken none else { l with phase := .window }
    else s)

/-- HEAD_REPLY_COMPLETE: the last character of a reply arrives inside the window, and the outcome is decided (R3, R4). -/
def execHeadReplyComplete (value : Byte) (framing noise : Bool) (s : State) : Host.Outcome State Fault Refusal :=
  .next (s.whenRunning fun s => s.modLine fun l => l.character value (framing || noise) s.now)

/-- HEAD_REPLY_CHARACTER: a reply character other than the last (R3). -/
def execHeadReplyCharacter (value : Byte) (framing noise : Bool) (s : State) : Host.Outcome State Fault Refusal :=
  .next (s.whenRunning fun s => s.modLine fun l => l.character value (framing || noise) s.now)

/-- REPLY_WINDOW_CLOSE: SILENT with no character received, else GARBLED (R4). -/
def execReplyWindowClose (s : State) : Host.Outcome State Fault Refusal :=
  .next (s.whenRunning fun s =>
    if s.line.phase = .window then
      s.onExpiry (some (s.line.slotStart + Config.windowEnd)) fun s =>
        s.modLine fun l => l.offer (if l.chars.isEmpty then .silent else .garbled) none
    else s)

/-- HEAD_LINE_BREAK: recognised while the window is open it ends the transaction as BROKEN; elsewhere it is not sensed (R5). -/
def execHeadLineBreak (s : State) : Host.Outcome State Fault Refusal :=
  .next (s.whenRunning fun s =>
    s.modLine fun l => if l.phase = .window then l.offer .broken none else l)

end Sys2Proof.Machine
end

