-- ==== Sys2Proof/Machine/Prediction.lean ====
section
/-! DEFINITION. The Arrival Predictor and the record work its results lead to: requests, the computation, deadlines, and
what a changed record settles with the Sequence Controller (04_arrival_prediction.md). -/

namespace Sys2Proof.Machine

/-! ## Records: deadline, overdue, report -/

def Ctx.setRec (c : Ctx) (i : Slot) (r : Option TrainRec) : Ctx :=
  c.modTrk fun t => { t with recs := put t.recs i r }

def Ctx.modRec (c : Ctx) (i : Slot) (f : TrainRec → TrainRec) : Ctx :=
  c.modTrk fun t => { t with recs := upd t.recs i fun r => r.map f }

/-- A deadline, if absent or not yet reached, is set to a time and is reached; one reached already keeps its time
(R45, R63, R67, R68). -/
def TrainRec.reachAt (r : TrainRec) (t : Time) : TrainRec :=
  if r.reached then r else { r with deadline := some ⟨t, true⟩ }

/-- The content of a train report (R55). -/
def trainContent (i : Slot) (r : TrainRec) (k : Kinds) (now : Time) : Content :=
  .train i r.gen r.track r.entrySide k (some r.status) r.total now

/-- The content of the report of a record removed as LOST (R55). -/
def lostContent (i : Slot) (r : TrainRec) (now : Time) : Content :=
  .train i r.gen r.track r.entrySide { Kinds.none with lost := true } none 0 now

/-- The report is sent when the event closes (R122). -/
def Ctx.trainReport (c : Ctx) (x : Content) : Ctx := { c with trains := c.trains ++ [x] }

/-- An APPROACHING record whose overdue time has come (R49): STOPPED on a halt approach, reported OVERDUE once on any
other. -/
def Ctx.overdue (c : Ctx) (i : Slot) : Ctx :=
  match c.s.trk.recs[i] with
  | none => c
  | some r =>
    if r.status = .approaching ∧ r.overdueTime ≤ c.s.now then
      if isHalt r.approachSide then
        (c.setRec i (some { r with status := .stopped, restartReq := false, proceedShown := false, restartDue := none })).stage
          (.trainStatus i r.gen r.track .approaching .stopped)
      else if r.overdueRep then c
      else
        let r' := { r with overdueRep := true }
        (c.setRec i (some r')).trainReport (trainContent i r' { Kinds.none with overdue := true } c.s.now)
    else c

/-- What a changed record settles: its RECORD demand follows it (R54), and the Sequence Controller is given a deadline
notice where one is due (R69), at which it makes the opening check (R89). -/
def Ctx.settleRecord (c : Ctx) (old : Option TrainRec) (i : Slot) : Ctx :=
  let c := c.syncDemand i
  if deadlineNoticeDue old c.s.trk.recs[i] then c.openingCheck else c

/-- The PREDICTION event of a speed-unknown marking, with the record as it stands (R70). -/
def Ctx.stagePrediction (c : Ctx) (i : Slot) (x : PredResult) (clamped : Bool) : Ctx :=
  match c.s.trk.recs[i] with
  | none => c
  | some r => c.stage (.prediction i r.gen r.seq x r.predicted r.deadline clamped)

/-- A record is marked speed-unknown and its deadline is reached (R61, R63, R68). -/
def Ctx.speedUnknown (c : Ctx) (i : Slot) (t : Time) (x : PredResult) : Ctx :=
  (c.modRec i fun r => { r.reachAt t with speedUnknown := true }).stagePrediction i x false

/-! ## Requests and the computation unit (R62 to R64) -/

def Ctx.modPred (c : Ctx) (f : Predictor → Predictor) : Ctx := { c with s := { c.s with pred := f c.s.pred } }

/-- Place a request in the queue: in the place of one for its slot, or at the tail; none when four are queued (R63). -/
def placeRequest (q : List Request) (r : Request) : Option (List Request) :=
  if q.any fun x => x.slot == r.slot then some (q.map fun x => if x.slot = r.slot then r else x)
  else if q.length < Config.requestCapacity then some (q ++ [r])
  else none

/-- The idle unit takes the request at the head of the queue and starts computing (R64). -/
def Predictor.startNext (p : Predictor) (now : Time) : Predictor :=
  match p.unit, p.queue with
  | none, r :: q => { p with unit := some ⟨r, now⟩, queue := q }
  | _, _ => p

/-- The request of a speed sample, with its operands as they stand (R62). -/
def requestFor (s : State) (i : Slot) (r : TrainRec) (transit replyTime : Nat) : Request where
  slot := i
  gen := r.gen
  seq := r.seq
  distance := (s.pred.table[warnIndex r.track r.entrySide]).distance
  spacing := s.settings.spacing
  transit := transit
  replyTime := replyTime

/-- A request is queued, and an idle unit starts on it; a full queue marks the record speed-unknown (R63, R64). -/
def Ctx.request (c : Ctx) (i : Slot) (transit replyTime : Nat) : Ctx :=
  match c.s.trk.recs[i] with
  | none => c
  | some r =>
    match placeRequest c.s.pred.queue (requestFor c.s i r transit replyTime) with
    | some q => c.modPred fun p => { p with queue := q }.startNext c.s.now
    | none => c.speedUnknown i replyTime .queueFull

/-- A speed sample is offered for a record joined or formed at an outer head (R61). -/
def Ctx.sample (c : Ctx) (i : Slot) (formed : Bool) (transit : Word) (replyTime : Time) : Ctx :=
  if transit = 0 then
    if formed then c.speedUnknown i replyTime .noTransit else c
  else (c.modRec i fun r => { r with seq := r.seq + 1 }).request i transit.toNat replyTime

/-! ## Results (R64 to R66) -/

/-- The exact quotient of a computation, before the clamp (R64). -/
def Request.quotient (r : Request) : Nat := r.distance * r.transit * 100 / r.spacing

/-- The time to arrival (R64). -/
def Request.timeToArrival (r : Request) : Nat := min Config.arrivalClamp r.quotient

def Request.clamped (r : Request) : Bool := Config.arrivalClamp < r.quotient

/-- A result is current when the slot's record has the request's generation and sample sequence (R65). -/
def Request.isCurrent (r : Request) (t : Tracker) : Bool :=
  t.recs[r.slot].any fun x => x.gen == r.gen && x.seq == r.seq

/-- Steps 1 to 3 of R66 on the record. A candidate before crossing time 0 is taken as 0 (log 42). -/
def TrainRec.applyResult (x : TrainRec) (predicted now : Time) : TrainRec :=
  let candidate := predicted - x.warning
  { x with
    predicted := some predicted
    speedUnknown := false
    deadline := if x.reached then x.deadline else some ⟨candidate, decide (candidate ≤ now)⟩ }

/-- A current result is applied, its consequences settled in R66's order: the demand of a deadline reached, then an overdue
time that has come, then the deadline notice. -/
def Ctx.applyResult (c : Ctx) (r : Request) : Ctx :=
  let old := c.s.trk.recs[r.slot]
  let c := c.modRec r.slot fun x => x.applyResult (r.replyTime + r.timeToArrival) c.s.now
  (((c.stagePrediction r.slot .applied r.clamped).syncDemand r.slot).overdue r.slot).settleRecord old r.slot

/-- The completion of the computation in flight (R64, R65). -/
def Ctx.complete (c : Ctx) (r : Request) : Ctx :=
  let c := c.modPred fun p => { p with unit := none }
  let c := if r.isCurrent c.s.trk then c.applyResult r else c.stage (.predictionStale r.slot r.gen r.seq)
  c.modPred fun p => p.startNext c.s.now

/-- COMPUTATION_START: the idle unit starts on the request at the head of the queue (R64, log 10). -/
def execComputationStart (s : State) : Host.Outcome State Fault Refusal :=
  .next (s.whenRunning fun s => { s with pred := s.pred.startNext s.now })

/-- COMPUTATION_COMPLETE: 50 ms after its start (R64 to R66). -/
def execComputationComplete (s : State) : Host.Outcome State Fault Refusal :=
  .next (s.whenRunning fun s =>
    match s.pred.unit with
    | none => s
    | some u => s.onExpiry (some (u.start + Config.computation)) fun s => s.event fun c => c.complete u.req)

/-! ## The record timers (R49, R51, R67, R68) -/

/-- OVERDUE_EXPIRY: an APPROACHING record reaches its overdue time (R49). -/
def execOverdueExpiry (slot : Slot) (s : State) : Host.Outcome State Fault Refusal :=
  .next (s.whenRunning fun s =>
    match s.trk.recs[slot] with
    | none => s
    | some r =>
      if r.status = .approaching then
        s.onExpiry (some r.overdueTime) fun s => s.event fun c =>
          (c.overdue slot).settleRecord (some r) slot
      else s)

/-- RESTART_TIMEOUT_EXPIRY: restart requested and proceed shown are cleared together, and the demand goes (R51). -/
def execRestartTimeoutExpiry (slot : Slot) (s : State) : Host.Outcome State Fault Refusal :=
  .next (s.whenRunning fun s =>
    match s.trk.recs[slot] with
    | none => s
    | some r =>
      s.onExpiry r.restartDue fun s => s.event fun c =>
        (c.modRec slot fun r => { r with restartReq := false, proceedShown := false, restartDue := none }).settleRecord
          (some r) slot)

/-- DEADLINE_EXPIRY: crossing time reaches a closing deadline (R67). -/
def execDeadlineExpiry (slot : Slot) (s : State) : Host.Outcome State Fault Refusal :=
  .next (s.whenRunning fun s =>
    match s.trk.recs[slot] with
    | none => s
    | some r =>
      match r.deadline with
      | none => s
      | some d =>
        if d.reached then s
        else
          s.onExpiry (some d.time) fun s => s.event fun c =>
            (c.modRec slot fun r => { r with deadline := some ⟨d.time, true⟩ }).settleRecord (some r) slot)

/-- PREDICTION_GRACE_EXPIRY: 250 ms after strike-in an unpredicted record is speed-unknown (R68). -/
def execPredictionGraceExpiry (slot : Slot) (s : State) : Host.Outcome State Fault Refusal :=
  .next (s.whenRunning fun s =>
    match s.trk.recs[slot] with
    | none => s
    | some r =>
      s.onExpiry (if r.graceOn then r.strikeIn.map (· + Config.grace) else none) fun s => s.event fun c =>
        let c := c.modRec slot fun r => { r with graceOn := false }
        if r.predicted = none ∧ !r.speedUnknown then
          (c.speedUnknown slot (r.strikeIn.getD 0 + Config.grace) .grace).settleRecord (some r) slot
        else c)

end Sys2Proof.Machine
end

