-- ==== Sys2Proof/Machine/Counting.lean ====
section
/-! DEFINITION. The Section Counter and the Approach Tracker at a take and at a hand-over (02_section_counting.md,
03_the_approach_list.md). -/

namespace Sys2Proof.Machine

/-! ## The head record at a take (R9 to R15) -/

/-- A head enters FAILED (R9). -/
def HeadRec.fail (r : HeadRec) : HeadRec := { r with state := .failed, failCount := 3, goodCount := 0 }

/-- A non-GOOD outcome (R9). -/
def HeadRec.miss (r : HeadRec) : HeadRec :=
  match r.state with
  | .unknown | .missing => if r.failCount + 1 < 3 then { r with failCount := r.failCount + 1 } else r.fail
  | .active => { r with state := .missing, failCount := 1 }
  | .failed => { r with goodCount := 0 }
  | .settling => r.fail

/-- Store the reply's counts, the head ACTIVE (R10, R11). -/
def HeadRec.store (r : HeadRec) (g : GoodReply) : HeadRec :=
  { r with state := .active, heldAB := g.ab, heldBA := g.ba, failCount := 0, goodCount := 0 }

/-- A GOOD outcome without SENSOR_FAULT while FAILED (R13). -/
def HeadRec.prove (r : HeadRec) : HeadRec :=
  if r.goodCount + 1 < 5 then { r with goodCount := r.goodCount + 1 }
  else { r with state := .settling, goodCount := 5, failCount := 0 }

/-- The head state part of a GOOD outcome (R10 to R13). -/
def HeadRec.good (r : HeadRec) (g : GoodReply) (plausible : Bool) : HeadRec :=
  if g.sensorFault then
    (if r.state = .failed then { r with goodCount := 0 } else r.fail)
  else
    match r.state with
    | .unknown | .settling => r.store g
    | .active | .missing => if plausible then r.store g else r.fail
    | .failed => r.prove

/-- The fields kept from every GOOD reply, and the end of a CLEAR_HALF (R14, R15). -/
def HeadRec.keep (r : HeadRec) (g : GoodReply) (k : TxnKind) : HeadRec :=
  { r with
    lastReply := some g.time
    lastHalf := g.halfNow
    clearPending := if k = .clearHalf then false else r.clearPending }

/-- The head record brought up to date at the take (R7). -/
def HeadRec.take (r : HeadRec) (o : OutcomeRec) (plausible : Bool) : HeadRec :=
  match o.reply with
  | some g => (r.good g plausible).keep g o.kind
  | none => r.miss

/-- The deltas of an outcome, modulo 256 (R19). -/
def OutcomeRec.deltaAB (o : OutcomeRec) (g : GoodReply) : Nat := (g.ab - o.heldAB).toNat
def OutcomeRec.deltaBA (o : OutcomeRec) (g : GoodReply) : Nat := (g.ba - o.heldBA).toNat

/-- The verdict: both deltas within the limit of 64 (R19). -/
def OutcomeRec.plausible (o : OutcomeRec) (g : GoodReply) : Bool :=
  o.deltaAB g ≤ Config.plausibilityLimit && o.deltaBA g ≤ Config.plausibilityLimit

/-- A verdict is given: GOOD without SENSOR_FAULT from a head that was ACTIVE or MISSING (R7). -/
def OutcomeRec.judged (o : OutcomeRec) (g : GoodReply) : Bool :=
  !g.sensorFault && (o.stateBefore == .active || o.stateBefore == .missing)

/-- The implausible verdict was given. -/
def OutcomeRec.implausible (o : OutcomeRec) : Bool :=
  match o.reply with
  | some g => o.judged g && !o.plausible g
  | none => false

/-- The cause a HEAD_STATE event carries (R16). -/
def OutcomeRec.cause (o : OutcomeRec) : HeadCause :=
  match o.outcome with
  | .silent => .silent
  | .garbled => .garbled
  | .wrongHead => .wrongHead
  | .broken => .broken
  | .good =>
    match o.reply with
    | some g => if g.sensorFault then .sensorFault else if o.implausible then .implausible else .good
    | none => .good

/-- The net movement of two deltas, if any (R20). -/
def OutcomeRec.movement (o : OutcomeRec) (g : GoodReply) : Option Movement :=
  let a := o.deltaAB g
  let b := o.deltaBA g
  if b < a then some ⟨o.head, .ab, a - b, g.time, g.transit⟩
  else if a < b then some ⟨o.head, .ba, b - a, g.time, g.transit⟩
  else none

/-- The rising edge of HALF in a plausible reply (R21). -/
def GoodReply.halfEdge (g : GoodReply) : Bool := g.halfNow && !g.halfBefore

/-! ## Sections (R23, R24, R30, R31) -/

def Ctx.modSecs (c : Ctx) (f : Vector SecRec 6 → Vector SecRec 6) : Ctx :=
  { c with s := { c.s with secs := { c.s.secs with table := f c.s.secs.table } } }

def Ctx.queueDemand (c : Ctx) (k : DemandKey) (stands : Bool) : Ctx := { c with demands := c.demands ++ [(k, stands)] }

/-- A section entry changes: SECTION_STATE at a change of state or of reason, and at its place the notice that the section
has left CLEAR (R33, R48, R190). -/
def Ctx.setSection (c : Ctx) (i : Sec) (x : SecRec) (cause : SecCause) : Ctx :=
  let old := c.s.secs.table[i]
  let c := c.modSecs fun t => put t i x
  if old.state = x.state ∧ x.state ≠ .disturbed then c
  else
    let c := c.stage (.sectionState i old.state x.state x.reason x.count cause)
    if old.state = .clear then c.exitNotice .section_ else c

/-- The slots of a section's track whose records hold wheels in it, in list order. -/
def Tracker.holders (t : Tracker) (i : Sec) : List Slot :=
  (t.order (secTrack i)).filter fun j => t.recs[j].any fun r => decide (0 < r.wheelsIn i)

/-- Every record loses its wheels in a section (R46). -/
def Tracker.dropWheels (t : Tracker) (i : Sec) : Tracker :=
  { t with recs := t.recs.map fun r => r.map fun r => r.setWheels i 0 }

/-- A section becomes DISTURBED and the records drop their wheels in it (R23, R46); its demand and condition follow
(R31, R32). The statuses of the records concerned are derived by `settle`. -/
def Ctx.disturb (c : Ctx) (i : Sec) (why : Reason) (h : Head) : Ctx :=
  let c := c.setSection i ⟨.disturbed, 0, false, some why⟩ (.head h)
  let c := (c.queueDemand (.section_ i) true).notice (secPoint i) true (some (.section_ why))
  c.modTrk fun t => t.dropWheels i

/-- The state of a counting section by its new count (R24, R30). -/
def SecRec.withCount (x : SecRec) (n : Nat) : SecRec :=
  match x.state with
  | .disturbed => x
  | .clear | .occupied => { x with state := if n = 0 then .clear else .occupied, count := n }
  | .restoring =>
    if 0 < n then { x with count := n, swept := true }
    else if x.swept then { x with state := .clear, count := 0, swept := false }
    else { x with count := 0 }

/-- The count of a counting section changes at a hand-over; an island's demand follows its count (R24, R31). -/
def Ctx.setCount (c : Ctx) (i : Sec) (n : Nat) (h : Head) : Ctx :=
  let c := c.setSection i ((c.s.secs.table[i]).withCount n) (.head h)
  if isIsland i then c.queueDemand (.section_ i) (decide (0 < n)) else c

/-! ## Records: status and removal (R40, R42, R44, R45, R46) -/

/-- What an event makes of a record it leaves without wheels: lost in a section, or gone over the outer head of a side. -/
inductive Gone where
  | lost (i : Sec)
  | over (side : Side)
  deriving DecidableEq, Repr

/-- A record takes a derived status: leaving STOPPED clears its restart request (R44), and becoming APPROACHING makes it a
new approach of unknown speed (R45). -/
def TrainRec.takeStatus (r : TrainRec) (st : Status) (now : Time) : TrainRec :=
  let r := if r.status = .stopped then { r with restartReq := false, restartDue := none } else r
  let r := { r with status := st }
  if st = .approaching then
    { r.reachAt now with speedUnknown := true, predicted := none, seq := r.seq + 1, approach := some now }
  else r

/-- Derive the status of one record whose wheels changed, or stage its removal; a record without wheels keeps its slot and
place until the event's reports are built (`closeTracker`). -/
def Ctx.settle (c : Ctx) (g : Gone) (i : Slot) : Ctx :=
  match c.s.trk.recs[i] with
  | none => c
  | some r =>
    if r.total = 0 then
      match g with
      | .lost sec => (c.stage (.trainLost i r.gen sec)).trainReport (lostContent i r c.s.now)
      | .over side => c.stage (if side = r.entrySide then .trainWithdrawn i r.gen else .trainPassed i r.gen)
    else
      let st := r.derivedStatus
      if st = r.status then c
      else (c.setRec i (some (r.takeStatus st c.s.now))).stage (.trainStatus i r.gen r.track r.status st)

/-- A section is disturbed, and the records that held wheels there are settled in list order (R46, R48). -/
def Ctx.disturbAndDrop (c : Ctx) (i : Sec) (why : Reason) (h : Head) : Ctx :=
  let held := c.s.trk.holders i
  (c.disturb i why h).forEach held fun c j => c.settle (.lost i) j

/-- The kinds OVERRUN and UNPROTECTED that a record has gained in the event (R52, R53). -/
def gainedKinds (old : Option TrainRec) (new : TrainRec) : Kinds :=
  { Kinds.none with
    overrun := new.overrunRep && !old.any (·.overrunRep)
    unprotected := new.unprotRep && !old.any (·.unprotRep) }

/-- The report of a slot's record for the kinds it gained at the island, if any. -/
def Ctx.reportGained (c : Ctx) (old : Tracker) (i : Slot) : Ctx :=
  match c.s.trk.recs[i] with
  | none => c
  | some r =>
    let k := gainedKinds old.recs[i] r
    if k.any then c.trainReport (trainContent i r k c.s.now) else c

def Content.slotIs (x : Content) (i : Slot) : Bool := x.key == some i.val

/-- The slots in the order their reports join: T1's list from the A end, then T2's (R122). -/
def Tracker.listed (t : Tracker) : List Slot := t.order1 ++ t.order2

/-- Remove every record left without wheels; the others keep their relative order (R37). -/
def Tracker.purge (t : Tracker) : Tracker :=
  let recs := t.recs.map fun r => r.filter fun r => 0 < r.total
  let live := fun (i : Slot) => (recs[i]).isSome
  { t with recs := recs, order1 := t.order1.filter live, order2 := t.order2.filter live }

/-- The close of a take or hand-over: reports in list order, removals, then the demands and deadline notices that follow
(R31, R54, R69, R122). -/
def Ctx.closeTracker (c : Ctx) (old : Tracker) : Ctx :=
  let slots := c.s.trk.listed
  let c := c.forEach slots fun c i => c.reportGained old i
  let c := { c with trains := slots.flatMap fun i => c.trains.filter fun x => x.slotIs i }
  let c := c.modTrk Tracker.purge
  let wanted := c.demands
  let c := { c with demands := [] }.forEach wanted fun c d => c.demand d.1 d.2
  let c := c.forEach slots Ctx.syncDemand
  c.forEach slots fun c i => if deadlineNoticeDue old.recs[i] c.s.trk.recs[i] then c.openingCheck else c

/-! ## The take (R7, R18 to R22) -/

/-- The head record is brought up to date: HEAD_STATE at a change of state, and the head's condition at an entry to or
leaving of FAILED (R9 to R16). -/
def Ctx.takeHead (c : Ctx) (o : OutcomeRec) : Ctx :=
  let old := c.s.line.recs[o.head]
  let new := old.take o (!o.implausible)
  let c := c.map fun s => { s with line := { s.line with recs := put s.line.recs o.head new, offered := none } }
  if new.state = old.state then c
  else
    let c := c.stage (.headState o.head old.state new.state o.cause)
    if new.state = .failed then c.notice (headPoint o.head) true (some (.head o.cause))
    else if old.state = .failed then c.notice (headPoint o.head) false none
    else c

/-- The section work of a take: a head that entered FAILED disturbs its sections (R22), a rising edge of HALF disturbs them
(R21), and otherwise at most one movement is formed (R20). DESIGN CHOICE: a SETTLING head that falls back to FAILED by one
non-GOOD outcome gives the reason HEAD_FAILED (log 44). DESIGN CHOICE: of two bounding sections the one on side A is
disturbed first, with its event, its drops and the statuses that follow, before the other is (log 45). -/
def Ctx.takeSections (c : Ctx) (o : OutcomeRec) (entersFailed : Bool) : Ctx :=
  if entersFailed then
    c.forEach (boundingSecs o.head) fun c i =>
      c.disturbAndDrop i (if o.implausible then .implausible else .headFailed) o.head
  else
    match o.reply with
    | none => c
    | some g =>
      if o.judged g && o.plausible g then
        if g.halfEdge then c.forEach (boundingSecs o.head) fun c i => c.disturbAndDrop i .halfWheel o.head
        else c.map fun s => { s with secs := { s.secs with movement := o.movement g } }
      else c

/-- OUTCOME_TAKE: with its hand-over empty the Section Counter takes the offered outcome (R7, R18). -/
def execOutcomeTake (s : State) : Host.Outcome State Fault Refusal :=
  .next (s.whenRunning fun s =>
    match s.line.offered, s.secs.movement with
    | some o, none => s.event fun c =>
        let before := c.s.line.recs[o.head].state
        let old := c.s.trk
        let c := c.takeHead o
        let c := c.takeSections o (c.s.line.recs[o.head].state == .failed && before != .failed)
        c.closeTracker old
    | _, _ => s)

/-! ## The hand-over: the leaving side (R24, R40, R41) -/

/-- Wheels a movement has taken from records: the slots in the order they gave, with the number each gave. -/
abbrev Taken := List (Slot × Nat)

/-- Take `n` wheels in a section from records in the given order; each that gives up wheels takes the movement's heading
(R40, R41). -/
def takeWheels (dir : Dir) (i : Sec) : List Slot → Nat → Tracker → Tracker × Taken
  | [], _, t => (t, [])
  | j :: js, n, t =>
    match t.recs[j] with
    | none => takeWheels dir i js n t
    | some r =>
      let k := min n (r.wheelsIn i)
      if k = 0 then takeWheels dir i js n t
      else
        let t := { t with recs := put t.recs j (some { r.setWheels i (r.wheelsIn i - k) with heading := dir }) }
        let (t, more) := takeWheels dir i js (n - k) t
        (t, (j, k) :: more)

/-- The order in which records give up wheels to a movement: from the side-B-most for AB, from the side-A-most for BA
(R40, R41). -/
def Tracker.givers (t : Tracker) (k : Track) (dir : Dir) : List Slot :=
  match dir with
  | .ab => (t.order k).reverse
  | .ba => t.order k

/-- What the leaving side yields for the entering side. -/
inductive Wheels where
  /-- Wheels from beyond the crossing area. -/
  | fresh
  /-- Wheels taken from records. -/
  | taken (l : Taken)
  /-- Wheels that emerge from a DISTURBED section. -/
  | emerging
  deriving DecidableEq, Repr

/-- The leaving side of a movement (R24, R38). -/
def Ctx.leave (c : Ctx) (m : Movement) : Ctx × Wheels :=
  match m.leaves with
  | .outside => (c, .fresh)
  | .sec i =>
    let x := c.s.secs.table[i]
    if x.state = .disturbed then (c, .emerging)
    else if x.count < m.wheels then (c.disturbAndDrop i .negative m.head, .emerging)
    else
      let (t, l) := takeWheels m.dir i (c.s.trk.givers (secTrack i) m.dir) m.wheels c.s.trk
      ((c.setCount i (x.count - m.wheels) m.head).modTrk fun _ => t, .taken l)

/-! ## The hand-over: the entering side (R25, R36, R37, R39, R43, R47) -/

/-- The lowest-numbered available slot (R36). -/
def freeSlot (s : State) : Option Slot := allSlots.find? fun i => slotAvailable s i

/-- The end record of a track's end (R39). -/
def Tracker.endRecord (t : Tracker) (k : Track) : Side → Option Slot
  | .a => (t.order k).head?
  | .b => (t.order k).getLast?

/-- The four conditions of joining (R39). -/
def TrainRec.joins (r : TrainRec) (side : Side) (replyTime gap : Nat) : Bool :=
  decide (0 < r.wheelsIn (approachOf r.track side)) && r.entrySide == side && r.heading == inward side
  && r.lastEntry.any fun t => decide (replyTime - t ≤ gap)

/-- The record that wheels entering from outside join, if any (R39). -/
def joining (s : State) (k : Track) (side : Side) (replyTime : Nat) : Option Slot :=
  match s.trk.endRecord k side with
  | none => none
  | some i => if s.trk.recs[i].any fun r => r.joins side replyTime s.settings.trainGap then some i else none

/-- A record with the values every formation gives (R39, R43): the entry's warning time and margin are copied, the sample
sequence is 0, prediction and deadline are absent, and every flag is clear. -/
def newRecord (s : State) (gen : Byte) (k : Track) (side : Side) (dir : Dir) : TrainRec where
  gen := gen
  track := k
  entrySide := side
  wEntry := 0
  wIsland := 0
  wExit := 0
  heading := dir
  status := .approaching
  strikeIn := none
  lastEntry := none
  approach := none
  seq := 0
  predicted := none
  speedUnknown := false
  deadline := none
  warning := (s.pred.table[warnIndex k side]).warning
  margin := (s.pred.table[warnIndex k side]).margin
  restartReq := false
  proceedShown := false
  proceedTime := none
  overdueRep := false
  overrunRep := false
  unprotRep := false
  graceOn := false
  restartDue := none

/-- Sections of a track from the A end, for R37's "any section B-ward of it". -/
def secIsBward (i j : Sec) : Bool := secTrack i == secTrack j && j.val ≤ i.val

/-- The record holds wheels in `i` or in a section beyond it in direction `dir` (R37). -/
def TrainRec.holdsFrom (r : TrainRec) (i : Sec) (dir : Dir) : Bool :=
  allSecs.any fun j => decide (0 < r.wheelsIn j) &&
    match dir with
    | .ab => secIsBward j i
    | .ba => secIsBward i j

/-- Place a new slot in a track's list (R37): before the first record that holds wheels at or beyond the entered section
for AB, after the last such record for BA. DESIGN CHOICE: where another record stands beyond such a record, so that R37's
two clauses conflict, the first clause holds and the second yields (log 51). -/
def placeSlot (holds : Slot → Bool) (dir : Dir) (i : Slot) (l : List Slot) : List Slot :=
  match dir with
  | .ab => l.takeWhile (fun j => !holds j) ++ i :: l.dropWhile fun j => !holds j
  | .ba =>
    let back := l.reverse
    (back.takeWhile (fun j => !holds j) ++ i :: back.dropWhile fun j => !holds j).reverse

/-- Put a formed record in its slot and its place: first or last for a record formed at an outer head, by R37 for one that
emerges. -/
def Tracker.form (t : Tracker) (i : Slot) (r : TrainRec) (entered : Sec) (emerged : Bool) : Tracker :=
  let l := t.order r.track
  let holds := fun (j : Slot) => t.recs[j].any fun x => x.holdsFrom entered r.heading
  let l' := if emerged then placeSlot holds r.heading i l
    else match r.entrySide with
      | .a => i :: l
      | .b => l ++ [i]
  { t with recs := put t.recs i (some r), gens := put t.gens i r.gen }.setOrder r.track l'

/-- A record is formed: TRAIN_NEW, and at its place the notice to the Sequence Controller (R48). -/
def Ctx.form (c : Ctx) (i : Slot) (r : TrainRec) (entered : Sec) (cause : NewCause) : Ctx :=
  let c := c.modTrk fun t => t.form i r entered (cause == .emerged)
  (c.stage (.trainNew i r.gen r.track r.entrySide r.status r.total cause)).exitNotice .recordFormed

/-- Wheels of a record come into the island (R52, R53): the first of a STOPPED record without proceed shown is an overrun,
and any while the crossing is not CLOSED with closure proven are unprotected. -/
def TrainRec.reachIsland (r : TrainRec) (proven : Bool) : TrainRec :=
  { r with
    overrunRep := r.overrunRep || (r.status == .stopped && !r.proceedShown)
    unprotRep := r.unprotRep || !proven }

/-- A record receives wheels in a section. -/
def TrainRec.receive (r : TrainRec) (i : Sec) (n : Nat) (proven : Bool) : TrainRec :=
  let r := r.setWheels i (r.wheelsIn i + n)
  if isIsland i then r.reachIsland proven else r

/-- The crossing is CLOSED with closure proven (R53). -/
def closedProven (s : State) : Bool := s.seq.state == .closed && s.seq.proven

/-- Wheels taken from records join the same records on the other side (R41). -/
def Ctx.receive (c : Ctx) (i : Sec) (l : Taken) : Ctx :=
  let proven := closedProven c.s
  c.forEach l fun c x => c.modRec x.1 fun r => r.receive i x.2 proven

/-- A record formed at an outer head (R39). -/
def strikeInRecord (s : State) (i : Slot) (k : Track) (side : Side) (m : Movement) : TrainRec :=
  { newRecord s (s.trk.gens[i] + 1) k side m.dir with
    wEntry := m.wheels
    strikeIn := some m.replyTime
    lastEntry := some m.replyTime
    approach := some m.replyTime
    graceOn := true }

/-- A record formed by emergence into a section (R43). -/
def emergedRecord (s : State) (i : Slot) (entered : Sec) (m : Movement) : TrainRec :=
  let r := (newRecord s (s.trk.gens[i] + 1) (secTrack entered) m.dir.fromSide m.dir).receive entered m.wheels (closedProven s)
  { r with status := r.derivedStatus }

/-- The movement joins an end record at an outer head (R39). -/
def TrainRec.join (r : TrainRec) (i : Sec) (m : Movement) : TrainRec :=
  { r.setWheels i (r.wheelsIn i + m.wheels) with heading := m.dir, lastEntry := some m.replyTime }

/-- The slots that gave wheels, as the pass of the entering side sees them. -/
def Wheels.slots : Wheels → List Slot
  | .taken l => l.map (·.1)
  | .fresh | .emerging => []

/-- Settle the records concerned, in list order from the A end (R48). -/
def Ctx.settleAll (c : Ctx) (g : Gone) (k : Track) (touched : List Slot) : Ctx :=
  c.forEach ((c.s.trk.order k).filter fun i => touched.contains i) fun c i => c.settle g i

/-- The entering section is disturbed at the hand-over, and the wheels are absorbed (R25, R42, R46, R47). -/
def Ctx.refuseEntry (c : Ctx) (i : Sec) (why : Reason) (m : Movement) (w : Wheels) : Ctx :=
  let touched := w.slots ++ c.s.trk.holders i
  (c.disturb i why m.head).settleAll (.lost i) (secTrack i) touched

/-- Wheels from outside enter a counting approach: they join the end record or form a new one, and a speed sample is
offered (R39, R47, R61). DESIGN CHOICE: the PREDICTION event of that sample, if there is one, stands after TRAIN_NEW or
TRAIN_STATUS and before the events of the demands (R48, R70, log 47). -/
def Ctx.strikeIn (c : Ctx) (i : Sec) (n : Nat) (m : Movement) : Ctx :=
  let k := secTrack i
  let side := headSide m.head
  match joining c.s k side m.replyTime with
  | some j =>
    let c := (c.setCount i n m.head).modRec j fun r => r.join i m
    (c.settleAll (.lost i) k [j]).sample j false m.transit m.replyTime
  | none =>
    match freeSlot c.s with
    | none => c.refuseEntry i .listFull m .fresh
    | some j =>
      let c := (c.setCount i n m.head).form j (strikeInRecord c.s j k side m) i .strikeIn
      c.sample j true m.transit m.replyTime

/-- Emerging wheels enter a counting section: they form a record (R43, R47). -/
def Ctx.emerge (c : Ctx) (i : Sec) (n : Nat) (m : Movement) : Ctx :=
  match freeSlot c.s with
  | none => c.refuseEntry i .listFull m .emerging
  | some j => (c.setCount i n m.head).form j (emergedRecord c.s j i m) i .emerged

/-- The entering side of a movement (R25, R38). DESIGN CHOICE: a record whose taken wheels enter a DISTURBED section and that
is left without wheels is lost in the section entered (R42, log 46). -/
def Ctx.enter (c : Ctx) (m : Movement) (w : Wheels) : Ctx :=
  match m.enters with
  | .outside => c.settleAll (.over (headSide m.head)) (headTrack m.head) w.slots
  | .sec i =>
    let x := c.s.secs.table[i]
    let n := x.count + m.wheels
    if x.state = .disturbed then c.settleAll (.lost i) (secTrack i) w.slots
    else if Config.countLimit < n then c.refuseEntry i .implausible m w
    else
      match w with
      | .fresh => c.strikeIn i n m
      | .taken l => ((c.setCount i n m.head).receive i l).settleAll (.lost i) (secTrack i) w.slots
      | .emerging => c.emerge i n m

/-- HAND_OVER: the Approach Tracker takes the waiting movement, and both sides are applied to sections and records
(R24, R25, R38 to R48). -/
def execHandOver (s : State) : Host.Outcome State Fault Refusal :=
  .next (s.whenRunning fun s =>
    match s.secs.movement with
    | none => s
    | some m => s.event fun c =>
        let old := c.s.trk
        let c := c.map fun s => { s with secs := { s.secs with movement := none } }
        let x := c.leave m
        (x.1.enter m x.2).closeTracker old)

/-! ## The restore (R26, R27) -/

/-- The restore is accepted: DISTURBED, with each bounding head ACTIVE (R26). -/
def canRestore (s : State) (i : Sec) : Bool :=
  (s.secs.table[i]).state == .disturbed && (boundingHeads i).all fun h => (s.line.recs[h]).state == .active

/-- A bounding head of a restored section whose last reply had HALF set is sent a CLEAR_HALF in its next slot (R27). -/
def Ctx.pendClear (c : Ctx) (h : Head) : Ctx :=
  c.map fun s => s.modLine fun l =>
    { l with recs := upd l.recs h fun r => { r with clearPending := r.clearPending || r.lastHalf } }

/-- The results of an accepted restore (R27). -/
def Ctx.restore (c : Ctx) (i : Sec) : Ctx :=
  let c := c.setSection i ⟨.restoring, 0, false, none⟩ .restore
  let c := c.forEach (boundingHeads i) Ctx.pendClear
  (c.notice (secPoint i) false none).withdraw (.section_ i)

end Sys2Proof.Machine
end

