-- ==== Sys2Proof/Machine/LinkUnit.lean ====
section
/-! DEFINITION. The Signaller Link Unit: characters and frames, the transmit path, polls, commands, loss and resync
(08_the_signaller_link.md). -/

namespace Sys2Proof.Machine

def State.modLink (s : State) (f : Link → Link) : State := { s with link := f s.link }
def Ctx.modLink (c : Ctx) (f : Link → Link) : Ctx := c.map fun s => s.modLink f

/-! ## Kinds and lengths (12_formats.md, Signaller link frames) -/

def kindPoll : Byte := 0x01
def kindAckFault : Byte := 0x02
def kindAckAll : Byte := 0x03
def kindRestoreSection : Byte := 0x04
def kindHoldClosed : Byte := 0x05
def kindReleaseHold : Byte := 0x06
def kindReleaseLocal : Byte := 0x07
def kindWaiveClearance : Byte := 0x08
def kindPermitMaint : Byte := 0x09
def kindWithdrawPermit : Byte := 0x0A
def kindSetWarning : Byte := 0x0B
def kindStatus : Byte := 0x0C
def kindReport : Byte := 0x81
def kindIdle : Byte := 0x82
def kindAnswer : Byte := 0x83

/-- A SET_WARNING length: one to four groups of six (R146). -/
def groupLength (n : Nat) : Bool := n == 6 || n == 12 || n == 18 || n == 24

/-! ## The transmit path (R139) -/

/-- A reply is handed to the transmitter: it begins sending, or becomes the buffered frame (R139). -/
def Link.transmit (l : Link) (frame : List Byte) (rate : Nat) : Link :=
  match l.sending with
  | none => { l with sending := some ⟨frame, rate⟩ }
  | some _ => { l with buffered := some frame }

/-- Compose a frame with the crossing address in force and hand it to the transmitter. -/
def State.reply (s : State) (kind : Byte) (body : List Byte) : State :=
  s.modLink fun l => l.transmit (linkFrame s.settings.address kind body) s.settings.rate

/-- TRANSMIT_FRAME_DONE: the buffered frame, if any, begins sending, at the bit rate in force (R139, R153). -/
def execTransmitFrameDone (s : State) : Host.Outcome State Fault Refusal :=
  .next (s.whenRunning fun s => s.modLink fun l =>
    { l with sending := l.buffered.map fun f => ⟨f, s.settings.rate⟩, buffered := none })

/-! ## The parser (R135 to R137) -/

/-- The parser returns to HUNT: reception ends. -/
def Link.toHunt (l : Link) : Link := { l with rx := none, pauseDue := none, groups := Vector.replicate 4 false }

/-- A frame in reception is cut (R136): LINK_CUT with the kind if received, the characters received including the lead, and
the groups applied. -/
def Ctx.cut (c : Ctx) (cause : CutCause) : Ctx :=
  match c.s.link.rx with
  | none => c
  | some cs => (c.stage (.linkCut cause cs.head? (cs.length + 1) c.s.link.groups)).modLink Link.toHunt

/-- A character in HUNT: a lead character that carries the crossing address begins a frame (R135). -/
def Ctx.hunt (c : Ctx) (value : Byte) (lead framing : Bool) : Ctx :=
  if lead && !framing && value == c.s.settings.address then
    c.modLink fun l =>
      { l with rx := some [], groups := Vector.replicate 4 false, pauseDue := c.after Config.pauseLimit }
  else c

/-! ## SET_WARNING groups (R60, R146) -/

/-- A group is applied when its entry, warning time and overdue margin are valid (R58, R60). -/
def groupApplies (s : State) (entry : Byte) (warning margin : Word) : Bool :=
  entry.toNat ≤ 3 && inRange s.settings.timers.sequenceMinimum 120000 (100 * warning.toNat)
  && inRange 10000 300000 (100 * margin.toNat)

/-- The warning-table entry a group names, when it names one. -/
def entryIndex (entry : Byte) : Fin 4 := ⟨entry.toNat % 4, Nat.mod_lt _ (by decide)⟩

/-- The Arrival Predictor decides a group, and the Link records whether it was applied (R60, R146). -/
def State.takeGroup (s : State) (pos : Fin 4) (entry : Byte) (warning margin : Word) : State :=
  if groupApplies s entry warning margin then
    { s with
      pred := { s.pred with table := upd s.pred.table (entryIndex entry) fun w =>
        { w with warning := 100 * warning.toNat, margin := 100 * margin.toNat } }
      link := { s.link with groups := put s.link.groups pos true } }
  else { s with link := { s.link with groups := put s.link.groups pos false } }

/-- SET_WARNING_GROUP: a whole group with a good group check (R60, R146). -/
def execSetWarningGroup (pos : Fin 4) (entry : Byte) (warning margin : Word) (s : State) :
    Host.Outcome State Fault Refusal :=
  .next (s.whenRunning fun s => s.takeGroup pos entry warning margin)

/-- The group whose last character has just been received, if the characters received after the lead end one with a good
check (R146). -/
def finishedGroup (cs : List Byte) : Option (Fin 4 × List Byte) :=
  let n := cs.length - 2
  let len := (cs.getD 1 0).toNat
  if cs.head? = some kindSetWarning ∧ groupLength len ∧ 0 < n ∧ n ≤ len ∧ n % 6 = 0 then
    let g := cs.drop (cs.length - 6)
    if g.foldl (· + ·) 0 = 0 then some (⟨(n / 6 - 1) % 4, Nat.mod_lt _ (by decide)⟩, g) else none
  else none

/-- Take a group that the character just received has made whole. -/
def Ctx.groupOf (c : Ctx) (cs : List Byte) : Ctx :=
  match finishedGroup cs with
  | none => c
  | some (pos, g) =>
    c.map fun s => s.takeGroup pos (g.getD 0 0) (wordOf (g.getD 1 0) (g.getD 2 0)) (wordOf (g.getD 3 0) (g.getD 4 0))

/-! ## Whole frames (R138, R142) -/

/-- Steps 1 and 2 of R138: the link timer starts again, and a lost link returns, FP30 taken there (R151, R152, log 12). -/
def Ctx.frameGood (c : Ctx) : Ctx :=
  let lost := c.s.link.lost
  let at_ := c.s.link.lostAt
  let c := c.modLink fun l =>
    { l with timerDue := c.after c.s.settings.linkTimeout, lastWhole := some c.s.now, lost := false, lostAt := none }
  if lost then ((c.stage (.linkReturn at_)).notice fpLink false none).takePoints else c

/-- The argument a LINK_CMD event carries (log 31). -/
def frameArg (kind : Byte) (body : List Byte) : Option Byte :=
  if (kind = kindAckFault ∨ kind = kindRestoreSection) ∧ body.length = 1 then body.head? else none

/-- The applied groups a LINK_CMD event carries: for SET_WARNING alone (R138). -/
def frameGroups (kind : Byte) (l : Link) : Vector Bool 4 :=
  if kind = kindSetWarning then l.groups else Vector.replicate 4 false

/-- The mask of an ANSWER (R142): 0 unless the result is PARTIAL. -/
def answerMask (r : AnsResult) (l : Link) : Byte := if r = .partial_ then groupsByte l.groups else 0

/-- The summary that follows in the answer to STATUS (R142, log 30). -/
def answerSummary (kind : Byte) (r : AnsResult) (s : State) : List Byte :=
  if kind = kindStatus ∧ r = .accepted then statusSummary s else []

/-- Steps 4 and 5 of R138: LINK_CMD, then the ANSWER. -/
def State.answer (s : State) (kind : Byte) (body : List Byte) (r : AnsResult) : State :=
  let s := s.stage (.linkCmd kind (frameArg kind body) r (frameGroups kind s.link))
  (s.reply kindAnswer (answerBody kind r (answerMask r s.link) (answerSummary kind r s))).modLink Link.toHunt

/-- A whole frame other than a POLL: its work, settled, then its LINK_CMD and ANSWER (R138). -/
def State.wholeCommand (s : State) (kind : Byte) (body : List Byte) (work : Ctx → Ctx × AnsResult) : State :=
  let x := work (Ctx.start s).frameGood
  x.1.finish.s.answer kind body x.2

/-- A command without a body: REFUSED_ARG when it has one, else admitted always (R138, R143). -/
def plainCommand (body : List Byte) (work : Ctx → Ctx) (c : Ctx) : Ctx × AnsResult :=
  if body = [] then (work c, .accepted) else (c, .refusedArg)

/-! ## Polls (R125, R126, R140, R141) -/

/-- The acknowledgement of a POLL (R126, R140): REPORT_ACKED, the toggle flips, and a removal may let the Outbox Reader
fetch (R130). -/
def Ctx.acceptEcho (c : Ctx) (b : Byte) : Ctx :=
  match inAir c.s.queue with
  | none => c
  | some e =>
    if b.getLsbD 1 && b.getLsbD 0 == c.s.link.toggle then
      let c := c.modQueue ackReport
      let c := c.stage (.reportAcked e.content.origin e.content.key e.cls e.changed)
      (c.modLink fun l => { l with toggle := !l.toggle }).map State.fetchStart
    else c

/-- The request of a POLL and its reply: REPORT of what is offered, else IDLE (R125, R140, R141). -/
def State.pollReply (s : State) : State :=
  let x := requestReport s.queue
  let s := { s with queue := x.1 }
  match x.2 with
  | some sent => s.reply kindReport (reportBody s.link.toggle sent)
  | none => s.reply kindIdle (idleBody s.seq s.flt)

/-- A whole POLL (R138, R140). -/
def State.wholePoll (s : State) (body : List Byte) : State :=
  match body with
  | [b] => ((((Ctx.start s).frameGood.acceptEcho b).finish.s).pollReply).modLink Link.toHunt
  | _ =>
    ((Ctx.start s).frameGood.finish.s.reply kindAnswer (answerBody kindPoll .refusedArg 0 [])).modLink Link.toHunt

/-- POLL (R140). -/
def execPoll (body : List Byte) (s : State) : Host.Outcome State Fault Refusal :=
  .next (s.whenRunning fun s => s.wholePoll body)

/-! ## Commands (R143 to R148) -/

/-- The work of ACK_FAULT (R114, R143). -/
def ackFaultWork (body : List Byte) (c : Ctx) : Ctx × AnsResult :=
  match body with
  | [b] =>
    if h : b.toNat < 32 then
      match c.acknowledge ⟨b.toNat, h⟩ .signaller with
      | some c' => (c', .accepted)
      | none => (c, .refusedState)
    else (c, .refusedArg)
  | _ => (c, .refusedArg)

/-- SIGNALLER_ACK_FAULT (R114). -/
def execSignallerAckFault (body : List Byte) (s : State) : Host.Outcome State Fault Refusal :=
  .next (s.whenRunning fun s => s.wholeCommand kindAckFault body (ackFaultWork body))

/-- Every point that can be acknowledged is, in point order (R115). -/
def Ctx.ackAll (c : Ctx) : Ctx := c.forEach allPoints fun c p => (c.acknowledge p .signaller).getD c

/-- ACK_ALL (R115). -/
def execAckAll (body : List Byte) (s : State) : Host.Outcome State Fault Refusal :=
  .next (s.whenRunning fun s => s.wholeCommand kindAckAll body (plainCommand body Ctx.ackAll))

/-- The work of RESTORE_SECTION (R26, R27, R143). -/
def restoreWork (body : List Byte) (c : Ctx) : Ctx × AnsResult :=
  match body with
  | [b] =>
    if h : 1 ≤ b.toNat ∧ b.toNat ≤ 6 then
      let i : Sec := ⟨b.toNat - 1, by omega⟩
      if canRestore c.s i then (c.restore i, .accepted) else (c, .refusedState)
    else (c, .refusedArg)
  | _ => (c, .refusedArg)

/-- RESTORE_SECTION (R26, R27). -/
def execRestoreSection (body : List Byte) (s : State) : Host.Outcome State Fault Refusal :=
  .next (s.whenRunning fun s => s.wholeCommand kindRestoreSection body (restoreWork body))

/-- SIGNALLER_HOLD_CLOSED raises SIGNALLER_HOLD (R74). -/
def execSignallerHoldClosed (body : List Byte) (s : State) : Host.Outcome State Fault Refusal :=
  .next (s.whenRunning fun s =>
    s.wholeCommand kindHoldClosed body (plainCommand body fun c => c.raise .signallerHold))

/-- SIGNALLER_RELEASE_HOLD withdraws SIGNALLER_HOLD (R74). -/
def execSignallerReleaseHold (body : List Byte) (s : State) : Host.Outcome State Fault Refusal :=
  .next (s.whenRunning fun s =>
    s.wholeCommand kindReleaseHold body (plainCommand body fun c => c.withdraw .signallerHold))

/-- RELEASE_LOCAL withdraws LOCAL_HOLD (R74). -/
def execReleaseLocal (body : List Byte) (s : State) : Host.Outcome State Fault Refusal :=
  .next (s.whenRunning fun s =>
    s.wholeCommand kindReleaseLocal body (plainCommand body fun c => c.withdraw .localHold))

/-- The work of WAIVE_CLEARANCE (R85). -/
def waiveWork (body : List Byte) (c : Ctx) : Ctx × AnsResult :=
  if body = [] then
    (if c.s.seq.state = .clearance then (c.enterExitLower, .accepted) else (c, .refusedState))
  else (c, .refusedArg)

/-- WAIVE_CLEARANCE (R85). -/
def execWaiveClearance (body : List Byte) (s : State) : Host.Outcome State Fault Refusal :=
  .next (s.whenRunning fun s => s.wholeCommand kindWaiveClearance body (waiveWork body))

/-- PERMIT_MAINT (R145). -/
def execPermitMaint (body : List Byte) (s : State) : Host.Outcome State Fault Refusal :=
  .next (s.whenRunning fun s =>
    s.wholeCommand kindPermitMaint body (plainCommand body fun c => c.modSeq fun q => { q with permission := true }))

/-- WITHDRAW_PERMIT, which ends maintenance in TEST (R145, R190). -/
def execWithdrawPermit (body : List Byte) (s : State) : Host.Outcome State Fault Refusal :=
  .next (s.whenRunning fun s =>
    s.wholeCommand kindWithdrawPermit body (plainCommand body fun c =>
      (c.modSeq fun q => { q with permission := false }).exitNotice .withdrawPermit))

/-- The result of a whole SET_WARNING of a fitting length: ACCEPTED when every group in it was applied (R148). -/
def groupsResult (l : Link) (n : Nat) : AnsResult :=
  if (l.groups.toList.take (n / 6)).all (· == true) then .accepted else .partial_

/-- The work of SET_WARNING: its groups were applied as they came (R146, R148). -/
def setWarningWork (body : List Byte) (c : Ctx) : Ctx × AnsResult :=
  (c, if groupLength body.length then groupsResult c.s.link body.length else .refusedArg)

/-- SET_WARNING (R148). -/
def execSetWarning (body : List Byte) (s : State) : Host.Outcome State Fault Refusal :=
  .next (s.whenRunning fun s => s.wholeCommand kindSetWarning body (setWarningWork body))

/-- STATUS (R147). -/
def execStatus (body : List Byte) (s : State) : Host.Outcome State Fault Refusal :=
  .next (s.whenRunning fun s => s.wholeCommand kindStatus body (plainCommand body id))

/-- FRAME_REFUSED_KIND: the code names no signaller kind (R138). -/
def execFrameRefusedKind (kind : Byte) (body : List Byte) (s : State) : Host.Outcome State Fault Refusal :=
  .next (s.whenRunning fun s => s.wholeCommand kind body fun c => (c, .refusedKind))

/-! ## Characters and breaks (R134 to R137, R150) -/

/-- The work of a frame's kind, for the frames that are answered (R138). -/
def frameWork (kind : Byte) (body : List Byte) : Ctx → Ctx × AnsResult :=
  if kind = kindAckFault then ackFaultWork body
  else if kind = kindAckAll then plainCommand body Ctx.ackAll
  else if kind = kindRestoreSection then restoreWork body
  else if kind = kindHoldClosed then plainCommand body fun c => c.raise .signallerHold
  else if kind = kindReleaseHold then plainCommand body fun c => c.withdraw .signallerHold
  else if kind = kindReleaseLocal then plainCommand body fun c => c.withdraw .localHold
  else if kind = kindWaiveClearance then waiveWork body
  else if kind = kindPermitMaint then plainCommand body fun c => c.modSeq fun q => { q with permission := true }
  else if kind = kindWithdrawPermit then
    plainCommand body fun c => (c.modSeq fun q => { q with permission := false }).exitNotice .withdrawPermit
  else if kind = kindSetWarning then setWarningWork body
  else if kind = kindStatus then plainCommand body id
  else fun c => (c, .refusedKind)

/-- A frame has ended whole (R138). -/
def State.wholeFrame (s : State) (kind : Byte) (body : List Byte) : State :=
  if kind = kindPoll then s.wholePoll body else s.wholeCommand kind body (frameWork kind body)

/-- A frame ends with its second check character: whole, or cut with cause CHECK (R135, R136). -/
def State.endFrame (s : State) (cs : List Byte) : State :=
  let n := cs.length - 2
  let cover := cs.take n
  let s := s.modLink fun l => { l with rx := some cs }
  if check16 cover = wordOf (cs.getD n 0) (cs.getD (n + 1) 0) then s.wholeFrame (cs.getD 0 0) (cover.drop 2)
  else ((Ctx.start s).cut .check).s

/-- A character with its lead bit clear and no framing error, received in RECEIVING after `cs` (R135, R137, R146). -/
def State.fillPosition (s : State) (cs : List Byte) (value : Byte) : State :=
  let cs := cs ++ [value]
  let len := (cs.getD 1 0).toNat
  if cs.length = 2 ∧ Config.bodyLimit < len then
    ((Ctx.start (s.modLink fun l => { l with rx := some cs })).cut .length).s
  else if 2 ≤ cs.length ∧ cs.length = len + 4 then s.endFrame cs
  else
    ((Ctx.start (s.modLink fun l =>
      { l with rx := some cs, pauseDue := some (s.now + Config.pauseLimit) })).groupOf cs).s

/-- A character received on the signaller link (R135, R136). No character is received during a break (R134). -/
def State.linkCharacter (s : State) (value : Byte) (lead framing : Bool) : State :=
  if s.link.brk.isSome then s
  else
    match s.link.rx with
    | none => ((Ctx.start s).hunt value lead framing).s
    | some cs =>
      if framing then ((Ctx.start s).cut .framing).s
      else if lead then (((Ctx.start s).cut .lead).hunt value lead framing).s
      else s.fillPosition cs value

/-- LINK_CHARACTER (R135). -/
def execLinkCharacter (value : Byte) (lead framing : Bool) (s : State) : Host.Outcome State Fault Refusal :=
  .next (s.whenRunning fun s => s.linkCharacter value lead framing)

/-- LINK_BREAK: a break is recognised, and it cuts a frame in reception (R134, R136). -/
def execLinkBreak (start : Time) (s : State) : Host.Outcome State Fault Refusal :=
  .next (s.whenRunning fun s =>
    if s.link.brk.isSome then s
    else ((Ctx.start (s.modLink fun l => { l with brk := some ⟨min start s.now, false⟩ })).cut .brk).s)

/-- LINK_BREAK_END: the line returns to mark (R134, R150). -/
def execLinkBreakEnd (s : State) : Host.Outcome State Fault Refusal :=
  .next (s.whenRunning fun s => s.modLink fun l => { l with brk := none })

/-- PAUSE_EXPIRY (R137). -/
def execPauseExpiry (s : State) : Host.Outcome State Fault Refusal :=
  .next (s.whenRunning fun s => s.onExpiry s.link.pauseDue fun s =>
    ((Ctx.start s).cut .pause).s.modLink Link.toHunt)

/-- The Link's part of a resync (R150). -/
def Link.resync (l : Link) : Link :=
  { l with toggle := false, buffered := none, brk := l.brk.map fun b => ⟨b.start, true⟩ }

/-- The resync of a long break (R127, R150). DESIGN CHOICE: no frame is cut by it, so its LINK_CUT carries no kind, 0
characters and no groups (log 53). -/
def State.resync (s : State) : State :=
  { s with queue := returnFromAir s.queue, link := s.link.resync }.stage
    (.linkCut .longBreak none 0 (Vector.replicate 4 false))

/-- LONG_BREAK: a break reaches 1,000 ms; one break resyncs once (R150). -/
def execLongBreak (s : State) : Host.Outcome State Fault Refusal :=
  .next (s.whenRunning fun s =>
    match s.link.brk with
    | none => s
    | some b =>
      if b.resynced then s
      else s.onExpiry (some (b.start + Config.longBreak)) State.resync)

/-- LINK_TIMEOUT: the link is lost (R127, R151). -/
def execLinkTimeout (s : State) : Host.Outcome State Fault Refusal :=
  .next (s.whenRunning fun s =>
    s.onExpiry (if s.link.lost then none else s.link.timerDue) fun s => s.event fun c =>
      let c := c.modLink fun l => { l with lost := true, lostAt := some c.s.now, timerDue := none }
      ((c.stage (.linkLost c.s.link.lastWhole)).notice fpLink true none).modQueue returnFromAir)

end Sys2Proof.Machine
end

