-- ==== Sys2Proof/Machine/Image.lean ====
section
/-! DEFINITION. The Image Unit: the layout of the image and its snapshot (R172, R173, 12_formats.md "The image"). -/

namespace Sys2Proof.Machine

/-- A one-byte field that may be absent (FFh). -/
def optCode (n : Option Nat) : Byte := byte (n.getD 0xFF)

/-- A slot or index number, FFh for none. -/
def optSlot (i : Option Slot) : Byte := optCode (i.map (·.val))

/-- Header, 16 bytes at 000h. -/
def imageHeader (s : State) : List Byte :=
  bytes2 s.img.serial ++ bytes4 s.now ++ [byte s.seq.state.code, byte s.flt.mode.code] ++ stamp (some s.seq.entered)
  ++ [flagByte [s.seq.proven, s.seq.permission], byte (unhealthyCount s.flt), 0, 0, 0]

/-- The status byte of a fault point: state, class, in-maintenance, condition present. -/
def faultStatus (p : Point) (e : FaultEntry) (present : Bool) : Byte :=
  byte (e.state.code + 4 * (pointClass p).code + bit e.inMaint 3 + bit present 4)

/-- Fault table, 9 bytes a point at 010h. -/
def imageFault (f : Faults) (p : Point) : List Byte :=
  let e := f.table[p]
  [faultStatus p e f.present[p], byte e.count, causeByte e.cause] ++ stamp e.firstRaised ++ stamp e.lastChange

/-- Demand set, 50 bytes at 130h. -/
def imageDemands (d : DemandSet) : List Byte :=
  [byte d.depth, 0] ++ allDemands.flatMap fun k => stamp (d.get k)

/-- One section, 4 bytes from 162h. -/
def imageSection (x : SecRec) : List Byte :=
  [byte x.state.code, byte x.count, flagByte [x.swept], optCode (x.reason.map Reason.code)]

/-- One head, 9 bytes from 17Ah. -/
def imageHead (r : HeadRec) : List Byte :=
  [byte r.state.code, r.heldAB, r.heldBA, byte r.failCount, byte r.goodCount, flagByte [r.lastHalf, r.clearPending]]
  ++ stamp r.lastReply

/-- One slot of the slot table, 2 bytes from 1C2h. -/
def imageSlot (s : State) (i : Slot) : List Byte :=
  [flagByte [(s.trk.recs[i]).isSome, slotReserved s.queue i], s.trk.gens[i]]

/-- List order of one track: the number of records, then 8 slot numbers, FFh filling unused places. -/
def imageOrder (l : List Slot) : List Byte :=
  byte l.length :: (List.range 8).map fun n => optSlot l[n]?

/-- The packed byte of a record. -/
def recordPacked (r : TrainRec) : Byte :=
  byte (r.track.code + 2 * r.entrySide.code + 4 * r.heading.code + 8 * r.status.code)

/-- One record, 36 bytes from 1E4h; a slot without a record reads as zeros (log 38). -/
def imageRecord (r : Option TrainRec) : List Byte :=
  match r with
  | none => List.replicate 36 0
  | some r =>
    [r.gen, byte r.wEntry, byte r.wIsland, byte r.wExit, r.seq, recordPacked r,
      flagByte [r.speedUnknown, r.reached, r.restartReq, r.proceedShown, r.overdueRep, r.overrunRep, r.unprotRep]]
    ++ bytes2 (r.warning / 100) ++ bytes2 (r.margin / 100)
    ++ stamp r.strikeIn ++ stamp r.lastEntry ++ stamp r.approach ++ stamp r.predicted ++ stamp (r.deadline.map (·.time))
    ++ stamp r.proceedTime ++ stamp (if r.status = .approaching then some r.overdueTime else none) ++ stamp r.restartDue
    ++ [0]

/-- One warning-table entry, 7 bytes from 304h; the halt flag is set for W0 and W2 (R57). DEDUCED: warning time and overdue
margin stand in 100 ms units, two bytes each (log 50). -/
def imageWarn (p : Predictor) (n : Fin 4) : List Byte :=
  let w := p.table[n]
  bytes2 w.distance ++ bytes2 (w.warning / 100) ++ bytes2 (w.margin / 100) ++ [flagByte [n.val % 2 == 0]]

/-- Prediction, 32 bytes at 304h. -/
def imagePrediction (s : State) : List Byte :=
  (([0, 1, 2, 3] : List (Fin 4)).flatMap fun n => imageWarn s.pred n) ++ bytes2 s.settings.spacing
  ++ [byte s.pred.queue.length, optSlot (s.pred.unit.map fun u => u.req.slot)]

/-- One boom's output byte: output, target, position, BROKEN. -/
def imageBoom (s : State) (b : Boom) : Byte :=
  let d := s.seq.drives[b]
  byte (d.output.code + 4 * d.target.code + 8 * (s.prv.position b).code + bit (!s.prv.intact b) 5)

/-- One road lamp's output byte: command, test setting (zero outside TEST, log 33). -/
def imageLamp (q : Sequence) (i : Fin 6) : Byte :=
  byte ((q.lamps[i.val]'(by omega)).code + 4 * match q.test with | some t => (t.lamps[i]).code | none => 0)

/-- The flags byte of the outputs: audible 1, audible 2, D1, D2, test settings of the two audibles. -/
def outputFlags (q : Sequence) : Byte :=
  let t := fun (n : Fin 2) => match q.test with | some t => t.audible[n] | none => false
  flagByte [q.audible[0], q.audible[1], q.lamps[6] == .lit, q.lamps[7] == .lit, t 0, t 1]

/-- The byte of boom test settings, LOWER as 1 (log 33). -/
def boomTests (q : Sequence) : Byte :=
  flagByte (allBooms.map fun b => match q.test with | some t => t.booms[b] == .lower | none => false)

/-- Outputs, 16 bytes at 324h. -/
def imageOutputs (s : State) : List Byte :=
  (allBooms.map fun b => imageBoom s b) ++ (([0, 1, 2, 3, 4, 5] : List (Fin 6)).map fun i => imageLamp s.seq i)
  ++ [outputFlags s.seq, boomTests s.seq, 0, 0, 0, 0]

/-- Proving, 8 bytes at 334h. DESIGN CHOICE: a bit is 1 for a made contact, for a mask that runs and for an item expected LIT
(log 55). -/
def imageProving (s : State) : List Byte :=
  bytes2 (flagByteFrom 0 (s.prv.contacts.toList.map (·.settled)))
  ++ [flagByte (allBooms.map fun b => (s.prv.masks[b]).isSome), byte s.prv.detector.code,
      flagByte (allLamps.map fun i => expectedLit s.seq i), 0, 0, 0]

/-- Link, 8 bytes at 33Ch. -/
def imageLink (s : State) : List Byte :=
  [flagByte [s.link.lost]] ++ stamp s.link.lastWhole
  ++ [flagByte [s.link.toggle, s.link.sending.isSome, s.link.buffered.isSome, s.link.rx.isSome],
      s.settings.address, byte s.settings.rate, 0]

/-- Reports, 8 bytes at 344h. -/
def imageReports (s : State) : List Byte :=
  let e := inAir s.queue
  [byte s.queue.length, byte (hostEntries s.queue), optCode (e.map fun e => e.content.origin.code),
    optCode (e.bind fun e => e.content.key), optCode (e.map fun e => e.cls.code),
    byte s.bus.outbox.consumer, byte s.bus.outbox.shadow, byte s.bus.outbox.state.code]

/-- One command slot, 10 bytes from 34Ch. -/
def imageCommand (x : CmdSlot) : List Byte :=
  [byte x.result.code, x.kind, x.tag] ++ stamp x.time ++ wordBytes x.argA ++ wordBytes x.argB

/-- The ring slot being written, FFFFh for none (log 39). -/
def slotWritten (r : Ring) : Nat := if r.state = .record then r.producer else 0xFFFF

/-- Ring, 12 bytes at 39Ch; capacity 0 while no window exists (log 39). -/
def imageRing (b : Bus) : List Byte :=
  bytes2 b.ring.producer ++ bytes2 b.ring.consumer
  ++ bytes2 (match windowOf b.windows .eventRing with | some w => ringCapacity w | none => 0)
  ++ [byte b.ring.state.code, byte b.ring.staging.length] ++ bytes2 b.ring.missed ++ bytes2 (slotWritten b.ring)

/-- Load in flight (R193). DESIGN CHOICE: the four values of its list count from 0, none 0, first 1, retry 2, reload 3, and none
is not FFh (log 58). -/
def loadCode (l : Option Load) : Nat := match l with | some l => l.kind.code + 1 | none => 0

/-- Settings status, 12 bytes at 3A8h. DESIGN CHOICE: the overtaken byte is 0 while no load is in flight (log 58). -/
def imageLoader (l : Loader) : List Byte :=
  [flagByte [l.fromBlock], optCode (l.lastBad.map BadBlock.code), byte (loadCode l.load),
    flagByte [l.load.any (·.overtaken)]] ++ stamp l.retryDue ++ bytes2 l.valid ++ bytes2 l.invalid ++ [0]

/-- Settings in force, laid out as setting block offsets 06h to 25h: 32 bytes at 3B4h. -/
def imageSettings (x : Settings) : List Byte :=
  [x.address, byte x.rate] ++ bytes2 x.linkTimeout ++ bytes2 x.spacing ++ bytes2 x.trainGap ++ bytes4 x.restartTimeout
  ++ bytes2 x.secondWindow
  ++ bytes2 x.timers.amber ++ bytes2 x.timers.redWarn ++ bytes2 x.timers.entryLimit ++ bytes2 x.timers.exitLimit
  ++ bytes2 x.timers.raiseLimit ++ bytes2 x.timers.clearSettle ++ bytes2 x.timers.clearLimit ++ bytes2 x.timers.minClosed
  ++ bytes2 x.timers.flashPeriod

/-- One descriptor of the window table in force, its last flag clear (log 40); an unused entry is zero. -/
def imageWindow (w : Option Window) : List Byte :=
  match w with
  | some w => [byte w.kind.code, byte w.units] ++ bytes2 w.base
  | none => [0, 0, 0, 0]

/-- A claimant is granted: the port is busy with its access and the access has not completed (R163). In the event of its last
completion the Setting Loader has no load in flight any more, and a snapshot of that event shows it without a claim (R165,
R168). -/
def grantedTo (s : State) (w : Claimant) : Bool := s.bus.portIs w && (w != .loader || s.ldr.load.isSome)

/-- Claim state and wait count of an internal claimant (R168). DESIGN CHOICE: the wait count is 0 where the claim is absent or
granted, and the states count from 0, absent 0, waiting 1, granted 2 (log 57). -/
def imageClaim (s : State) (w : Claimant) : List Byte :=
  match s.bus.claimOf w with
  | some c => [1, byte c.wait]
  | none => [if grantedTo s w then 2 else 0, 0]

/-- Pass-through, 8 bytes at 3F4h. -/
def imagePass (s : State) : List Byte :=
  [flagByte [s.bus.up.isSome]] ++ internalOrder.flatMap (fun w => imageClaim s w) ++ [0]

/-- The regions of the image in order, and the four bytes that fall outside them (R173). -/
def imageBytes (s : State) : List Byte :=
  imageHeader s
  ++ allPoints.flatMap (fun p => imageFault s.flt p)
  ++ imageDemands s.seq.demands
  ++ allSecs.flatMap (fun i => imageSection s.secs.table[i])
  ++ allHeads.flatMap (fun h => imageHead s.line.recs[h])
  ++ allSlots.flatMap (fun i => imageSlot s i)
  ++ imageOrder s.trk.order1 ++ imageOrder s.trk.order2
  ++ allSlots.flatMap (fun i => imageRecord s.trk.recs[i])
  ++ imagePrediction s
  ++ imageOutputs s
  ++ imageProving s
  ++ imageLink s
  ++ imageReports s
  ++ allSlots.flatMap (fun i => imageCommand s.cmd[i])
  ++ imageRing s.bus
  ++ imageLoader s.ldr
  ++ imageSettings s.settings
  ++ (List.range 8).flatMap (fun n => imageWindow s.bus.windows[n]?)
  ++ imagePass s
  ++ [0, 0, 0, 0]

/-- The next serial: from 65,535 to 1 and never to 0 (R172). -/
def nextSerial (n : Nat) : Nat := if n = 65535 then 1 else n + 1

/-- A new snapshot of the image as it stands (R172). -/
def State.takeSnapshot (s : State) : State :=
  let s := { s with img := { s.img with serial := nextSerial s.img.serial } }
  { s with img := { s.img with snapshot := some (imageBytes s) } }

/-- A byte of the snapshot; zero while it is invalid (R172). -/
def ImageUnit.byteAt (u : ImageUnit) (off : Nat) : Byte := (u.snapshot.getD []).getD off 0

/-- What a read of the IMAGE window returns (R172); a byte read returns its byte in the low half (log 32). -/
def ImageUnit.read (u : ImageUnit) (off : Nat) (word : Bool) : Word :=
  if word then wordOf (u.byteAt off) (u.byteAt (off + 1)) else wordOf (u.byteAt off) 0

/-- The state of an entry as a code, and its occurrence count, as the snapshot shows them (R174). -/
def ImageUnit.faultShown (u : ImageUnit) (p : Point) : Nat × Byte :=
  ((u.byteAt (0x10 + 9 * p.val)).toNat % 4, u.byteAt (0x10 + 9 * p.val + 1))

/-- The snapshot is valid and shows the entry in its present state and count (R174). -/
def hostHasSeen (s : State) (p : Point) : Bool :=
  let e := s.flt.table[p]
  s.img.snapshot.isSome && s.img.faultShown p == (e.state.code, byte e.count)

end Sys2Proof.Machine
end

