-- ==== Sys2Proof/Machine/Host.lean ====
section
/-! DEFINITION. The Pass-Through Unit and the Command Admission Unit: host accesses, their decision, the host commands, and
the completion of a passed access (09_pass_through_and_windows.md, 10_commands_image_and_event_ring.md). -/

namespace Sys2Proof.Machine

def State.modBus (s : State) (f : Bus → Bus) : State := { s with bus := f s.bus }

/-- The part answers the access in hand (R155). -/
def State.answerHost (s : State) (x : Answer) : State := s.modBus fun b => { b with up := none, answer := some x }

/-- An access is passed to memory: it claims the downstream port (R155, R163). -/
def State.pass (s : State) (a : HostAccess) (e : Effect) : State :=
  s.modBus fun b => { b with up := some ⟨a, .waiting, e⟩ }.grant

/-! ## Matching (R158) -/

/-- The next byte address, with FFFFFh followed by 00000h (R158). -/
def nextAddr (a : Addr) : Addr := a + 1

/-- A word access at an odd address that touches a byte of a window (R158). -/
def oddWord (ws : List Window) (a : HostAccess) : Bool :=
  a.word && a.addr.getLsbD 0 && ((windowAt ws a.addr.toNat).isSome || (windowAt ws (nextAddr a.addr).toNat).isSome)

/-- Offset of an access within a window. -/
def Window.offset (w : Window) (a : Addr) : Nat := a.toNat - w.first

/-- The Pass-Through Unit refuses an access: FAULT, and WRITE_DENIED for a write (R162); the region is that of the byte at the
access's address (log 41). -/
def State.deny (s : State) (a : HostAccess) (cause : DenyCause) : State :=
  let s := s.answerHost .fault
  if a.write then
    match windowAt s.bus.windows a.addr.toNat with
    | some w => s.stage (.writeDenied a.addr a.word (some w.kind) (w.offset a.addr) cause)
    | none => s.stage (.writeDenied a.addr a.word none 0 cause)
  else s

/-! ## Loads begin (R182) -/

/-- The read of the setting-block word `n` (R182). -/
def settingRead (n : Nat) : MemAccess := ⟨Config.blockBase + 2 * n, false, 2, []⟩

/-- A load begins: its first read is claimed (R182). -/
def State.startLoad (s : State) (k : LoadKind) : State :=
  { s with ldr := { s.ldr with load := some ⟨k, [], false⟩ } }.modBus fun b => b.claim .loader (settingRead 0)

/-! ## The host commands (R170, R171) -/

/-- The kinds of host command (R171), in the order of their codes from 1. -/
inductive HostKind where
  | holdClosed | releaseHold | haltRestart | ackFault | enterMaint | leaveMaint | testOutput | reloadSettings
  deriving DecidableEq, Repr

/-- The kind a trigger's low byte names (12_formats.md, Command slot). -/
def hostKind : Byte → Option HostKind
  | 1 => some .holdClosed
  | 2 => some .releaseHold
  | 3 => some .haltRestart
  | 4 => some .ackFault
  | 5 => some .enterMaint
  | 6 => some .leaveMaint
  | 7 => some .testOutput
  | 8 => some .reloadSettings
  | _ => none

/-- An item of TEST_OUTPUT with a setting it takes (R99). -/
inductive TestItem where
  | lamp (i : Fin 6) (x : LampCmd)
  | audible (i : Fin 2) (on : Bool)
  | boom (b : Boom) (t : Target)
  deriving DecidableEq, Repr

/-- FLASH is for reds alone: items 1, 2, 4 and 5 (R99). -/
def isRedItem (n : Nat) : Bool := n == 1 || n == 2 || n == 4 || n == 5

/-- The item and setting that the arguments of TEST_OUTPUT name, if any (12_formats.md, Command slot). -/
def testItem (a b : Nat) : Option TestItem :=
  if h : a < 6 then
    match b with
    | 0 => some (.lamp ⟨a, h⟩ .dark)
    | 1 => some (.lamp ⟨a, h⟩ .lit)
    | 2 => if isRedItem a then some (.lamp ⟨a, h⟩ .flash) else none
    | _ => none
  else if h : a < 8 then
    match b with
    | 0 => some (.audible ⟨a - 6, by omega⟩ false)
    | 1 => some (.audible ⟨a - 6, by omega⟩ true)
    | _ => none
  else if h : a < 12 then
    match b with
    | 0 => some (.boom ⟨a - 8, by omega⟩ .raise)
    | 1 => some (.boom ⟨a - 8, by omega⟩ .lower)
    | _ => none
  else none

/-- The track of HALT_RESTART's argument (R171). -/
def trackArg : Nat → Option Track
  | 1 => some .t1
  | 2 => some .t2
  | _ => none

/-- The side-B-most STOPPED record on a track's halt approach (R50). -/
def Tracker.stoppedAtHalt (t : Tracker) (k : Track) : Option Slot :=
  (t.order k).reverse.find? fun i => t.recs[i].any fun r => r.status == .stopped && isHalt r.approachSide

/-- The effect of HALT_RESTART (R50): restart is requested, and the record's demand follows. A flag already set stays, with
proceed shown and the restart timeout as they are. -/
def Ctx.requestRestart (c : Ctx) (i : Slot) : Ctx :=
  (c.modRec i fun r => { r with restartReq := true }).syncDemand i

/-- The test settings at the entry to TEST: the values the outputs have (R98). -/
def testSettings (q : Sequence) : TestSet where
  lamps := #v[q.lamps[0], q.lamps[1], q.lamps[2], q.lamps[3], q.lamps[4], q.lamps[5]]
  audible := q.audible
  booms := #v[q.drives[0].target, q.drives[1].target, q.drives[2].target, q.drives[3].target]

/-- The entry to TEST (R98, R189). -/
def Ctx.enterTest (c : Ctx) : Ctx :=
  ((c.stage .maintEnter).changeTo .test).modSeq fun q => { q with test := some (testSettings q) }

/-- ENTER_MAINT's first test (R189): OPEN, no record, every section CLEAR. -/
def crossingQuiet (s : State) : Bool :=
  s.seq.state == .opened && s.trk.liveRecs.isEmpty && allSecs.all fun i => (s.secs.table[i]).state == .clear

/-- The test travel limit a boom setting starts (R99). -/
def testLimit (t : Timers) (b : Boom) : Target → Nat
  | .raise => t.raiseLimit
  | .lower => if entryBooms.contains b then t.entryLimit else t.exitLimit

/-- A test setting replaces its item's, and the output follows at once (R99); a boom setting stops the boom's previous test
travel limit and starts one if it changes the target (log 21). -/
def Ctx.testOutput (c : Ctx) : TestItem → Ctx
  | .lamp i x =>
    ((c.modSeq fun q => { q with test := q.test.map fun t => { t with lamps := put t.lamps i x } }).setLamp
      ⟨i.val, by omega⟩ x).syncFlasher
  | .audible i on =>
    c.modSeq fun q => { q with test := q.test.map fun t => { t with audible := put t.audible i on },
                               audible := put q.audible i on }
  | .boom b t =>
    let due := if (c.s.seq.drives[b]).target = t then none else c.after (testLimit c.s.settings.timers b t)
    let c := (c.modSeq fun q => { q with test := q.test.map fun x => { x with booms := put x.booms b t } }).handTarget b t
    c.modSeq fun q => { q with testDue := put q.testDue b due }

/-- Tests 2 and 3 of R170 for each command: the refusal, or the work of the owning block. -/
def admitCommand (s : State) (a b : Word) : HostKind → Except CmdResult (Ctx → Ctx)
  | .holdClosed => if s.seq.state = .test then .error .wrongState else .ok fun c => c.raise .localHold
  | .releaseHold => .ok fun c => c.withdraw .localHold
  | .haltRestart =>
    match trackArg a.toNat with
    | none => .error .badArg
    | some k =>
      match s.trk.stoppedAtHalt k with
      | none => .error .wrongState
      | some i => .ok fun c => c.requestRestart i
  | .ackFault =>
    if h : a.toNat < 32 then
      let p : Point := ⟨a.toNat, h⟩
      if ((Ctx.start s).acknowledge p .host).isNone then .error .wrongState
      else if !hostHasSeen s p then .error .notSeen
      else .ok fun c => (c.acknowledge p .host).getD c
    else .error .badArg
  | .enterMaint =>
    if !crossingQuiet s then .error .wrongState
    else if !s.seq.permission || s.prv.batteryLow then .error .notPermitted
    else .ok Ctx.enterTest
  | .leaveMaint => if s.seq.state = .test then .ok fun c => c.exitNotice .leaveMaint else .error .wrongState
  | .testOutput =>
    match testItem a.toNat b.toNat with
    | none => .error .badArg
    | some x => if s.seq.state = .test then .ok fun c => c.testOutput x else .error .wrongState
  | .reloadSettings =>
    if s.seq.state ≠ .test then .error .wrongState
    else if s.ldr.load.isSome then .error .busy
    else .ok fun c => c.map fun s => s.startLoad .reload

/-- The decision on a trigger's kind and the slot's argument shadows (R170). -/
def decideCommand (s : State) (kind : Byte) (x : CmdSlot) : Except CmdResult (Ctx → Ctx) :=
  match hostKind kind with
  | none => .error .badKind
  | some k => admitCommand s x.argA x.argB k

/-- The slot's outcome record takes the decision (R169, R170). -/
def State.recordOutcome (s : State) (i : Slot) (kind tag : Byte) (r : CmdResult) : State :=
  { s with cmd := upd s.cmd i fun x => { x with result := r, kind := kind, tag := tag, time := some s.now } }

/-- A whole-word write to a trigger is decided (R160, R170). -/
def State.trigger (s : State) (a : HostAccess) (i : Slot) : State :=
  let kind := loByte a.data
  let tag := hiByte a.data
  let x := s.cmd[i]
  match decideCommand s kind x with
  | .error r => ((s.answerHost .fault).recordOutcome i kind tag r).stage (.cmdRefused i kind tag x.argA x.argB r)
  | .ok work => (((s.event work).pass a .none).recordOutcome i kind tag .accepted).stage (.cmdAccepted i kind tag x.argA x.argB)

/-! ## Treatment by kind (R159 to R161) -/

/-- A word write to the COMMAND window: a trigger goes to admission, an argument updates its shadow at its completion, the
rest is passed; a byte write to a trigger is refused (R160, R169). -/
def State.commandWrite (s : State) (a : HostAccess) (off : Nat) : State :=
  let i : Slot := ⟨off / 32 % 8, Nat.mod_lt _ (by decide)⟩
  let half : Option Bool := if a.word then none else some (off % 2 == 1)
  if off % 32 < 2 then (if a.word then s.trigger a i else s.deny a .byte)
  else if off % 32 < 4 then s.pass a (.argument i false half)
  else if off % 32 < 6 then s.pass a (.argument i true half)
  else s.pass a .none

/-- A write in the EVENT_RING window (R161, R178). -/
def State.ringWrite (s : State) (a : HostAccess) (w : Window) (off : Nat) : State :=
  if !a.word then s.deny a .byte
  else if off ≠ 2 then s.deny a .readOnly
  else if s.bus.ring.acceptsConsumer (ringCapacity w) a.data.toNat then s.pass a (.ringConsumer w a.data.toNat)
  else s.deny a .check

/-- A write in the OUTBOX window (R129, R161). -/
def State.outboxWrite (s : State) (a : HostAccess) (w : Window) (off : Nat) : State :=
  if 4 ≤ off then s.pass a .none
  else if !a.word then s.deny a .byte
  else if off ≠ 0 then s.deny a .readOnly
  else if s.bus.outbox.acceptsProducer (outboxCapacity w) a.data.toNat then s.pass a (.outboxProducer w a.data.toNat)
  else s.deny a .check

/-- A read of the IMAGE window: one that touches offset 0 first takes a new snapshot (R159, R172). -/
def State.imageRead (s : State) (a : HostAccess) (off : Nat) : State :=
  let s := if off = 0 then s.takeSnapshot else s
  s.answerHost (.complete (s.img.read off a.word))

/-- The treatment of an access that lies in one window (R159 to R161). -/
def State.treat (s : State) (a : HostAccess) (w : Window) : State :=
  let off := w.offset a.addr
  if a.write then
    match w.kind with
    | .image => s.deny a .readOnly
    | .guarded => if s.flt.mode = .maintenance then s.pass a .none else s.deny a .notMaintenance
    | .command => s.commandWrite a off
    | .eventRing => s.ringWrite a w off
    | .outbox => s.outboxWrite a w off
  else
    match w.kind with
    | .image => s.imageRead a off
    | .command | .eventRing | .outbox | .guarded => s.pass a .none

/-- The decision of an access (R155, R158). -/
def State.decide (s : State) (a : HostAccess) : State :=
  if oddWord s.bus.windows a then s.deny a .alignment
  else
    match windowAt s.bus.windows a.addr.toNat with
    | none => s.pass a .none
    | some w => s.treat a w

/-- The access held through STARTING is decided when STARTING ends (R165). DESIGN CHOICE: it counts as held no longer when it
is decided, so that a snapshot it takes itself shows no held access (R168, log 54). -/
def State.decideHeld (s : State) : State :=
  match s.bus.up with
  | some u => if u.phase = .held then { s with bus := { s.bus with up := none } }.decide u.acc else s
  | none => s

/-- An upstream access arrives (R155, R165). The host makes one access at a time, so one that comes while another is in hand
is not taken (log 8). -/
def State.hostArrive (s : State) (a : HostAccess) : State :=
  if s.bus.up.isSome then s
  else
    let s := s.modBus fun b => { b with answer := none }
    if s.seq.state = .starting then s.modBus fun b => { b with up := some ⟨a, .held, .none⟩ }
    else s.decide a

def readAccess (addr : Addr) (word : Bool) : HostAccess := ⟨addr, false, word, 0⟩
def writeAccess (addr : Addr) (word : Bool) (data : Word) : HostAccess := ⟨addr, true, word, data⟩

/-- A trigger write: the whole word with the kind in its low byte and the tag in its high byte (12_formats.md). -/
def triggerAccess (addr : Addr) (kind : Nat) (tag : Byte) : HostAccess := writeAccess addr true (triggerWord kind tag)

/-! ## The rows of the host -/

/-- SNAPSHOT: a host read that touches IMAGE offset 0 (R172). -/
def execSnapshot (addr : Addr) (word : Bool) (s : State) : Host.Outcome State Fault Refusal :=
  .next (s.whenRunning fun s => s.hostArrive (readAccess addr word))

/-- HOST_READ (R155). -/
def execHostRead (addr : Addr) (word : Bool) (s : State) : Host.Outcome State Fault Refusal :=
  .next (s.whenRunning fun s => s.hostArrive (readAccess addr word))

/-- HOST_WRITE (R159). -/
def execHostWrite (addr : Addr) (word : Bool) (data : Word) (s : State) : Host.Outcome State Fault Refusal :=
  .next (s.whenRunning fun s => s.hostArrive (writeAccess addr word data))

/-- HOLD_CLOSED (R171). -/
def execHoldClosed (addr : Addr) (tag : Byte) (s : State) : Host.Outcome State Fault Refusal :=
  .next (s.whenRunning fun s => s.hostArrive (triggerAccess addr 1 tag))

/-- RELEASE_HOLD (R171). -/
def execReleaseHold (addr : Addr) (tag : Byte) (s : State) : Host.Outcome State Fault Refusal :=
  .next (s.whenRunning fun s => s.hostArrive (triggerAccess addr 2 tag))

/-- HALT_RESTART (R50, R171). -/
def execHaltRestart (addr : Addr) (tag : Byte) (s : State) : Host.Outcome State Fault Refusal :=
  .next (s.whenRunning fun s => s.hostArrive (triggerAccess addr 3 tag))

/-- ACK_FAULT (R171, R174). -/
def execAckFault (addr : Addr) (tag : Byte) (s : State) : Host.Outcome State Fault Refusal :=
  .next (s.whenRunning fun s => s.hostArrive (triggerAccess addr 4 tag))

/-- ENTER_MAINT (R171, R189). -/
def execEnterMaint (addr : Addr) (tag : Byte) (s : State) : Host.Outcome State Fault Refusal :=
  .next (s.whenRunning fun s => s.hostArrive (triggerAccess addr 5 tag))

/-- LEAVE_MAINT (R171, R190). -/
def execLeaveMaint (addr : Addr) (tag : Byte) (s : State) : Host.Outcome State Fault Refusal :=
  .next (s.whenRunning fun s => s.hostArrive (triggerAccess addr 6 tag))

/-- TEST_OUTPUT (R99, R171). -/
def execTestOutput (addr : Addr) (tag : Byte) (s : State) : Host.Outcome State Fault Refusal :=
  .next (s.whenRunning fun s => s.hostArrive (triggerAccess addr 7 tag))

/-- RELOAD_SETTINGS (R171, R191). -/
def execReloadSettings (addr : Addr) (tag : Byte) (s : State) : Host.Outcome State Fault Refusal :=
  .next (s.whenRunning fun s => s.hostArrive (triggerAccess addr 8 tag))

/-- RING_CONSUMER_WRITE (R178). -/
def execRingConsumerWrite (addr : Addr) (value : Word) (s : State) : Host.Outcome State Fault Refusal :=
  .next (s.whenRunning fun s => s.hostArrive (writeAccess addr true value))

/-- OUTBOX_PRODUCER_WRITE (R129). -/
def execOutboxProducerWrite (addr : Addr) (value : Word) (s : State) : Host.Outcome State Fault Refusal :=
  .next (s.whenRunning fun s => s.hostArrive (writeAccess addr true value))

/-! ## Completion (R155, R161, R166, R169) -/

/-- A word with one of its halves replaced. -/
def setHalf (w : Word) (half : Option Bool) (data : Word) : Word :=
  match half with
  | none => data
  | some true => wordOf (loByte w) (loByte data)
  | some false => wordOf (loByte data) (hiByte w)

def CmdSlot.setArg (x : CmdSlot) (isB : Bool) (half : Option Bool) (data : Word) : CmdSlot :=
  if isB then { x with argB := setHalf x.argB half data } else { x with argA := setHalf x.argA half data }

/-- The shadow a completed access updates; a checked write only while its window is still in force (R161, R166, R169). -/
def State.applyEffect (s : State) (u : Upstream) : State :=
  match u.effect with
  | .none => s
  | .argument i isB half => { s with cmd := upd s.cmd i fun x => x.setArg isB half u.acc.data }
  | .ringConsumer w v =>
    if windowOf s.bus.windows .eventRing = some w then
      s.modBus fun b => { b with ring := { b.ring with consumer := v } }.ringStart
    else s
  | .outboxProducer w v =>
    if windowOf s.bus.windows .outbox = some w then
      (s.modBus fun b => { b with outbox := { b.outbox with shadow := v } }).fetchStart
    else s

/-- What a completed access returns to the host: a read's data, a byte in the low half (R155, log 32). -/
def completeData (a : HostAccess) (data : Word) : Word :=
  if a.write then 0 else if a.word then data else wordOf (loByte data) 0

/-- The granted upstream access, if its host still waits for it; an access abandoned by a host reset has none (R167). -/
def Bus.grantedUp (b : Bus) : Option Upstream :=
  match b.up with
  | some u => if u.phase = .granted then some u else none
  | none => none

/-- UPSTREAM_ACCESS_COMPLETE (R155, R163). -/
def execUpstreamAccessComplete (data : Word) (s : State) : Host.Outcome State Fault Refusal :=
  .next (s.whenRunning fun s =>
    if s.bus.portIs .upstream then
      let s := match s.bus.grantedUp with
        | some u => (s.applyEffect u).answerHost (.complete (completeData u.acc data))
        | none => s
      s.modBus Bus.release
    else s)

/-- PORT_GRANT (R163, log 10). -/
def execPortGrant (s : State) : Host.Outcome State Fault Refusal :=
  .next (s.whenRunning fun s => s.modBus Bus.grant)

end Sys2Proof.Machine
end

