-- ==== Sys2Proof/Machine/RingOutbox.lean ====
section
/-! DEFINITION. The Event Ring Writer's and the Outbox Reader's accesses, from start to completion (R128 to R131, R177,
R179). -/

namespace Sys2Proof.Machine

/-! ## The event ring -/

/-- The writer claims the header write in hand (R179). -/
def Bus.claimHeader (b : Bus) : Bus :=
  match windowOf b.windows .eventRing with
  | some w => b.claim .ring (headerWrite w b.ring.header)
  | none => b

/-- A completion that an apply has discarded: the first header write is claimed (R179). -/
def Bus.ringDiscarded (b : Bus) : Bus :=
  ({ b with ring := { b.ring with discard := false, header := 0 } }.claimHeader).release

/-- The record write has completed: the producer write is claimed (R177). -/
def Bus.recordWritten (b : Bus) : Bus :=
  match windowOf b.windows .eventRing with
  | some w =>
    ({ b with ring := { b.ring with state := .index } }.claim .ring
      (wordWrite w.first (nextIndex (ringCapacity w) b.ring.producer))).release
  | none => b

/-- The producer write has completed: P takes the value, the written event leaves the queue, and the next record write begins
if it can (R177). -/
def Bus.producerWritten (b : Bus) : Bus :=
  match windowOf b.windows .eventRing with
  | some w =>
    { b with ring := { b.ring with
        producer := nextIndex (ringCapacity w) b.ring.producer
        staging := b.ring.staging.tail
        state := .idle } }.ringStart.release
  | none => b

/-- A header write has completed: the next is claimed, or after the third the writer becomes IDLE (R179). -/
def Bus.headerWritten (b : Bus) : Bus :=
  if b.ring.header < 2 then
    ({ b with ring := { b.ring with header := b.ring.header + 1 } }.claimHeader).release
  else { b with ring := { b.ring with header := 0, state := .idle } }.ringStart.release

/-- A completion of the writer's access, which the writer takes in state `x` unless it is discarded. -/
def Bus.ringComplete (b : Bus) (x : WriterState) (done : Bus → Bus) : Bus :=
  if b.portIs .ring then
    if b.ring.discard then b.ringDiscarded
    else if b.ring.state = x then done b
    else b
  else b

/-- RING_WRITE_START (R177, log 10). -/
def execRingWriteStart (s : State) : Host.Outcome State Fault Refusal :=
  .next (s.whenRunning fun s => s.modBus Bus.ringStart)

/-- RING_RECORD_WRITE_COMPLETE (R177, R179). -/
def execRingRecordWriteComplete (s : State) : Host.Outcome State Fault Refusal :=
  .next (s.whenRunning fun s => s.modBus fun b => b.ringComplete .record Bus.recordWritten)

/-- RING_PRODUCER_WRITE_COMPLETE (R177, R179). -/
def execRingProducerWriteComplete (s : State) : Host.Outcome State Fault Refusal :=
  .next (s.whenRunning fun s => s.modBus fun b => b.ringComplete .index Bus.producerWritten)

/-- RING_HEADER_WRITE_COMPLETE (R179). -/
def execRingHeaderWriteComplete (s : State) : Host.Outcome State Fault Refusal :=
  .next (s.whenRunning fun s => s.modBus fun b => b.ringComplete .header Bus.headerWritten)

/-! ## The outbox -/

/-- The Reader claims the consumer write (R131). -/
def Bus.claimConsumer (b : Bus) : Bus :=
  match windowOf b.windows .outbox with
  | some w => b.claim .outbox (consumerWrite w b.outbox)
  | none => b

/-- A completion that an apply has discarded: the consumer write of 0 is claimed (R128). -/
def Bus.outboxDiscarded (b : Bus) : Bus :=
  ({ b with outbox := { b.outbox with discard := false } }.claimConsumer).release

/-- The class of a valid host record: ALERT or INFO (R131). -/
def hostClass : Byte → Option Class
  | 1 => some .alert
  | 2 => some .info
  | _ => none

/-- A fetched record as judged: valid with its class, or bad, by its length when the flag is set (R131). -/
def judgeRecord (r : List Byte) : Except Bool Class :=
  match hostClass (r.getD 0 0) with
  | none => .error false
  | some c => if inRange 1 24 (r.getD 1 0).toNat then .ok c else .error true

/-- The reference of a record. -/
def recordRef (r : List Byte) : Word := wordOf (r.getD 2 0) (r.getD 3 0)

/-- The content of a valid record (R131). -/
def hostContent (r : List Byte) (index : Nat) (now : Time) : Content :=
  .host (recordRef r) ((r.drop 4).take (r.getD 1 0).toNat) index now

/-- The record joins the report queue, or OUTBOX_BAD is staged (R131). -/
def State.takeRecord (s : State) (r : List Byte) : State :=
  match judgeRecord r with
  | .ok c => { s with queue := joinHost s.queue (hostContent r s.bus.outbox.consumer s.now) c }
  | .error lengthBad => s.stage (.outboxBad s.bus.outbox.consumer (recordRef r) lengthBad)

/-- The consumer index advances and its write is claimed (R131). -/
def Bus.advanceConsumer (b : Bus) : Bus :=
  match windowOf b.windows .outbox with
  | some w =>
    ({ b with outbox := { b.outbox with
        consumer := nextIndex (outboxCapacity w) b.outbox.consumer, state := .writing } }.claimConsumer).release
  | none => b

/-- OUTBOX_FETCH_START (R130, log 10). -/
def execOutboxFetchStart (s : State) : Host.Outcome State Fault Refusal :=
  .next (s.whenRunning State.fetchStart)

/-- OUTBOX_FETCH_COMPLETE (R128, R131). -/
def execOutboxFetchComplete (record : List Byte) (s : State) : Host.Outcome State Fault Refusal :=
  .next (s.whenRunning fun s =>
    if s.bus.portIs .outbox then
      if s.bus.outbox.discard then s.modBus Bus.outboxDiscarded
      else if s.bus.outbox.state = .fetching then (s.takeRecord record).modBus Bus.advanceConsumer
      else s
    else s)

/-- OUTBOX_CONSUMER_WRITE_COMPLETE: the Reader becomes IDLE, and a further fetch starts if it can (R131). -/
def execOutboxConsumerWriteComplete (s : State) : Host.Outcome State Fault Refusal :=
  .next (s.whenRunning fun s =>
    if s.bus.portIs .outbox then
      if s.bus.outbox.discard then s.modBus Bus.outboxDiscarded
      else if s.bus.outbox.state = .writing then
        ((s.modBus fun b => { b with outbox := { b.outbox with state := .idle } }).fetchStart).modBus Bus.release
      else s
    else s)

end Sys2Proof.Machine
end

