-- ==== Sys2Proof/Machine/LoaderUnit.lean ====
section
/-! DEFINITION. The Setting Loader: reading, judging and applying the setting block, and the end of STARTING (R181 to R187,
R191, R192). -/

namespace Sys2Proof.Machine

/-! ## Applying a block (R128, R153, R179, R185) -/

/-- The event ring starts afresh in a new window (R179): a waiting claim is withdrawn, a granted access will be discarded,
and with none granted the first header write is claimed. -/
def Bus.restartRing (b : Bus) : Bus :=
  let granted := b.portIs .ring
  let b := { b with
    ringClaim := none
    ring := { b.ring with producer := 0, consumer := 0, state := .header, header := 0, discard := granted } }
  if granted then b else b.claimHeader

/-- The outbox starts afresh in a new window (R128). -/
def Bus.restartOutbox (b : Bus) : Bus :=
  let granted := b.portIs .outbox
  let b := { b with outboxClaim := none, outbox := ⟨0, 0, .writing, granted⟩ }
  if granted then b else b.claimConsumer

/-- The window table is replaced whole; the ring and the outbox start afresh where their windows change (R157). -/
def Bus.setWindows (b : Bus) (ws : List Window) : Bus :=
  let old := b.windows
  let b := { b with windows := ws }
  let b := if windowOf old .eventRing = windowOf ws .eventRing then b else b.restartRing
  if windowOf old .outbox = windowOf ws .outbox then b else b.restartOutbox

/-- A frame in reception is cut when the bit rate changes (R153). -/
def Ctx.cutForRate (c : Ctx) (rate : Nat) : Ctx := if rate = c.s.settings.rate then c else c.cut .rate

/-- A valid block is applied in one event (R185). DESIGN CHOICE: a LINK_CUT of the rate change (R153) stands right after
SETTINGS_LOADED, ahead of the events of FP31 (log 48). -/
def Ctx.applyBlock (c : Ctx) (k : LoadKind) (v : BlockValues) : Ctx :=
  let c := (c.stage (.settingsLoaded k)).cutForRate v.settings.rate
  let c := c.map fun s =>
    { s with
      settings := v.settings
      pred := { s.pred with table := v.table }
      ldr := { s.ldr with fromBlock := true, retryDue := none }
      bus := s.bus.setWindows v.windows }
  c.notice fpSettings false none

/-! ## The load completion (R183, R185 to R187, R192) -/

/-- The load ends, and is counted as valid or invalid (R193, log 22). -/
def Loader.endLoad (l : Loader) (r : Option BadBlock) : Loader :=
  match r with
  | none => { l with load := none, valid := l.valid + 1 }
  | some x => { l with load := none, invalid := l.invalid + 1, lastBad := some x }

/-- The reason a judged block is invalid, if it is. -/
def badReason : Except BadBlock BlockValues → Option BadBlock
  | .ok _ => none
  | .error r => some r

/-- The retry timer starts (R187). -/
def Ctx.startRetry (c : Ctx) : Ctx := c.map fun s => { s with ldr := { s.ldr with retryDue := some (s.now + Config.retry) } }

/-- An invalid first load: the built-in values stay in force, and FP31 is taken ahead of CROSSING_STATE (R186, log 12). -/
def Ctx.firstInvalid (c : Ctx) (r : BadBlock) : Ctx :=
  (((c.stage (.settingsInvalid r)).notice fpSettings true none).takePoints).startRetry

/-- What a completed load does, by its kind and the judgement of its block (R185, R186, R187, R192). -/
def Ctx.loadOutcome (c : Ctx) (l : Load) (v : Except BadBlock BlockValues) : Ctx :=
  match l.kind with
  | .first =>
    (match v with
     | .ok v => c.applyBlock .first v
     | .error r => c.firstInvalid r).enterStartClose
  | .retry =>
    match v with
    | .ok v => c.applyBlock .retry v
    | .error _ => c.startRetry
  | .reload =>
    if l.overtaken then c.stage .reloadDiscarded
    else
      match v with
      | .ok v => c.applyBlock .reload v
      | .error r => c.stage (.settingsInvalid r)

/-- The load completion: the block is judged, the outcome taken, and the access held through STARTING decided (R165, R186). -/
def State.completeLoad (s : State) (l : Load) : State :=
  let v := judgeBlock l.words
  let s := { s with ldr := s.ldr.endLoad (badReason v) }
  let s := s.event fun c => c.loadOutcome l v
  if l.kind = .first then s.decideHeld else s

/-! ## Reading (R182) -/

/-- The words read so far are all that the load reads: the header words when they fail, else the block as the length gives
it (R182). -/
def loadIsWhole (ws : List Word) : Bool :=
  3 ≤ ws.length && ((headerFault ws).isSome || blockLength ws / 2 ≤ ws.length)

/-- A word of the setting block has been read: the next is claimed, or the load completes; the claims of the event made, the
port is freed (R163, R182). -/
def State.wordRead (s : State) (data : Word) : State :=
  match s.ldr.load with
  | none => s
  | some l =>
    let l := { l with words := l.words ++ [data] }
    if loadIsWhole l.words then (s.completeLoad l).modBus Bus.release
    else
      { s with ldr := { s.ldr with load := some l } }.modBus fun b =>
        (b.claim .loader (settingRead l.words.length)).release

/-- SETTING_WORD_READ_COMPLETE (R182). -/
def execSettingWordReadComplete (data : Word) (s : State) : Host.Outcome State Fault Refusal :=
  .next (s.whenRunning fun s => if s.bus.portIs .loader then s.wordRead data else s)

/-- LOAD_COMPLETION: the last read of a load completes (R182, R185). -/
def execLoadCompletion (data : Word) (s : State) : Host.Outcome State Fault Refusal :=
  .next (s.whenRunning fun s => if s.bus.portIs .loader then s.wordRead data else s)

/-- RETRY_EXPIRY: a retry begins (R187). -/
def execRetryExpiry (s : State) : Host.Outcome State Fault Refusal :=
  .next (s.whenRunning fun s => s.onExpiry (if s.ldr.load.isSome then none else s.ldr.retryDue) fun s =>
    { s with ldr := { s.ldr with retryDue := none } }.startLoad .retry)

end Sys2Proof.Machine
end

