-- ==== Sys2Proof/Machine/Proving.lean ====
section
/-! DEFINITION. The Proving Unit: contact settling, masks, lamp checks, and the reports they make
(06_proving_and_fault_points.md). -/

namespace Sys2Proof.Machine

/-! ## Contacts (R102, R103) -/

/-- The settle timer follows the raw level: it starts when the level comes to differ and stops when it returns (R102). -/
def Contact.follow (k : Contact) (now : Time) : Contact :=
  if k.raw = k.settled then { k with due := none }
  else if k.due.isSome then k
  else { k with due := some (now + Config.contactSettle) }

/-- The contact belongs to a masked boom (R103). -/
def Proving.masked (p : Proving) (i : Fin 16) : Bool :=
  match contactBoom i with
  | some b => (p.masks[b]).isSome
  | none => false

def Proving.setRaw (p : Proving) (i : Fin 16) (made : Bool) : Proving :=
  { p with contacts := upd p.contacts i fun k => { k with raw := made } }

def Proving.followContact (p : Proving) (i : Fin 16) (now : Time) : Proving :=
  { p with contacts := upd p.contacts i fun k => k.follow now }

/-- The settled level takes the raw level (R102). -/
def Proving.settleContact (p : Proving) (i : Fin 16) : Proving :=
  { p with contacts := upd p.contacts i fun k => { k with settled := k.raw, due := none } }

def State.modPrv (s : State) (f : Proving → Proving) : State := { s with prv := f s.prv }

/-- CONTACT_INPUT_CHANGE: the raw level of a pin changes, and its settle timer follows it unless its boom is masked
(R102, R103). In part reset only the pin moves (log 5). -/
def execContactInputChange (input : Fin 16) (made : Bool) (s : State) : Host.Outcome State Fault Refusal :=
  .next ((s.modPrv fun p => p.setRaw input made).whenRunning fun s =>
    s.modPrv fun p => if p.masked input then p else p.followContact input s.now)

/-- A boom's position or integrity has changed from what it was: the causes of R105 in its table's order, then the test of
R106. -/
def Ctx.boomChanged (c : Ctx) (b : Boom) (was : Proving) : Ctx :=
  let is := c.s.prv.position b
  let c := if c.s.seq.state = .closed ∧ was.position b = .down ∧ is ≠ .down then c.boomCause b .leftDown else c
  let c := if is = .conflict ∧ was.position b ≠ .conflict then c.boomCause b .conflict else c
  let c := if was.intact b ∧ !c.s.prv.intact b then c.boomCause b .broken else c
  c.boomGoTest b

/-- The detector's state has been re-derived (R109). -/
def Ctx.detectorChanged (c : Ctx) (was : Proving) : Ctx :=
  let is := c.s.prv.detector
  if is = was.detector then c
  else if is = .fault then c.notice fpDetector true (some .detectorFault)
  else if was.detector = .fault then c.notice fpDetector false none
  else c

/-- The conditions that follow from a settled change, handed to the Fault Supervisor (R105, R106, R109, R110). -/
def Ctx.contactConditions (c : Ctx) (i : Fin 16) (was : Proving) : Ctx :=
  match contactBoom i with
  | some b => c.boomChanged b was
  | none =>
    if i = mainsContact then c.notice fpMains c.s.prv.mainsLost none
    else if i = batteryContact then c.notice fpBattery c.s.prv.batteryLow none
    else c.detectorChanged was

/-- What the Sequence Controller does at a boom position report (R77, R81, R86, R90). -/
def Ctx.boomReport (c : Ctx) : Ctx :=
  match c.s.seq.state with
  | .startClose => if c.s.prv.allAt allBooms .down then c.enterClosed else c
  | .entryLower => c.entryDownTest
  | .exitLower => if c.s.prv.allAt exitBooms .down then c.enterClosed else c
  | .raising => if c.s.prv.allAt allBooms .up then c.enterOpen else c
  | _ => c

/-- What the Sequence Controller does at a change of the detector in CLEARANCE (R83). -/
def Ctx.detectorReport (c : Ctx) (was : Proving) : Ctx :=
  if c.s.seq.state = .clearance ∧ c.s.prv.detector ≠ was.detector then
    c.modSeq fun q =>
      { q with settleDue := if c.s.prv.detector = .clear then c.after c.s.settings.timers.clearSettle else none }
  else c

/-- What the Sequence Controller does with the report of a settled change. -/
def Ctx.contactReport (c : Ctx) (i : Fin 16) (was : Proving) : Ctx :=
  match contactBoom i with
  | some _ => c.boomReport
  | none =>
    if i = mainsContact then c
    else if i = batteryContact then (if c.s.prv.batteryLow then c.exitNotice .batteryLow else c)
    else c.detectorReport was

/-- CONTACT_SETTLE_EXPIRY: the input counts as changed; the Sequence Controller acts on the report, and the Fault Supervisor
takes every point of the event in order at its end (R102, R121, log 14). -/
def execContactSettleExpiry (input : Fin 16) (s : State) : Host.Outcome State Fault Refusal :=
  .next (s.whenRunning fun s => s.onExpiry (s.prv.contacts[input]).due fun s => s.event fun c =>
    let was := c.s.prv
    let c := c.modPrv fun p => p.settleContact input
    (c.contactConditions input was).contactReport input was)

/-- The mask of a boom ends, and its contacts that differ start their timers (R103). -/
def Proving.endMask (p : Proving) (b : Boom) (now : Time) : Proving :=
  (boomContacts b).foldl (fun p i => p.followContact i now) { p with masks := put p.masks b none }

/-- BOOM_MASK_END (R103). -/
def execBoomMaskEnd (boom : Boom) (s : State) : Host.Outcome State Fault Refusal :=
  .next (s.whenRunning fun s => s.onExpiry s.prv.masks[boom] fun s => s.modPrv fun p => p.endMask boom s.now)

/-! ## Lamps (R107, R108) -/

/-- The expected state that a lamp fault denied: LIT for SEEN_DARK, DARK for SEEN_LIT (R108). -/
def LampCause.denied : LampCause → Bool
  | .seenDark => true
  | .seenLit => false

/-- The cause of a wrong check with this expected state (R108). -/
def wrongCause (expected : Bool) : LampCause := if expected then .seenDark else .seenLit

def Ctx.setLampFault (c : Ctx) (i : Lamp) (x : Option LampCause) : Ctx :=
  c.modPrv fun p => { p with lamps := upd p.lamps i fun l => { l with fault := x } }

/-- A check of a lamp item (R108). -/
def Ctx.checkLamp (c : Ctx) (i : Lamp) : Ctx :=
  let l := c.s.prv.lamps[i]
  let expected := expectedLit c.s.seq i
  match l.fault with
  | none =>
    if l.sense = expected then c
    else (c.setLampFault i (some (wrongCause expected))).notice (lampPoint i) true (some (.lamp (wrongCause expected)))
  | some f =>
    if l.sense = expected ∧ f.denied = expected then (c.setLampFault i none).notice (lampPoint i) false none
    else c

/-- LAMP_CHECK_EXPIRY (R107, R108). -/
def execLampCheckExpiry (item : Lamp) (s : State) : Host.Outcome State Fault Refusal :=
  .next (s.whenRunning fun s => s.onExpiry (s.prv.lamps[item]).checkDue fun s => s.event fun c =>
    (c.modPrv fun p => { p with lamps := upd p.lamps item fun l => { l with checkDue := none, expired := true } }).checkLamp
      item)

/-- The item's command is steady (R108). -/
def isSteady (q : Sequence) (i : Lamp) : Bool := q.lamps[i] != .flash

/-- LAMP_SENSE_CHANGE: the pin moves, and a steady item whose check timer has expired is checked (R108). In part reset only
the pin moves (log 5). -/
def execLampSenseChange (item : Lamp) (lit : Bool) (s : State) : Host.Outcome State Fault Refusal :=
  let changed := (s.prv.lamps[item]).sense != lit
  .next ((s.modPrv fun p => { p with lamps := upd p.lamps item fun l => { l with sense := lit } }).whenRunning fun s =>
    if changed && isSteady s.seq item && (s.prv.lamps[item]).expired then s.event fun c => c.checkLamp item else s)

end Sys2Proof.Machine
end

