-- ==== Sys2Proof/Machine/Sequence.lean ====
section
/-! DEFINITION. The expiries of the Sequence Controller's timers (05_the_closing_sequence.md). Each happens at its timer's
expiry time, stops the timer, and acts by the rule of the crossing state. -/

namespace Sys2Proof.Machine

/-- The cause of a boom that is not at an end position at a travel limit (R105). -/
def limitCause : Target → BoomCause
  | .lower => .notDownAtLimit
  | .raise => .notUpAtLimit

/-- A travel limit names a boom: it is judged against an end position (R93, R105). -/
def Ctx.judgeBoom (c : Ctx) (b : Boom) (t : Target) : Ctx :=
  if c.s.prv.position b = t.endPosition then c else c.boomCause b (limitCause t)

/-- The named booms are judged, and the Fault Supervisor takes the points that arise (R93). -/
def Ctx.judgePoints (c : Ctx) (bs : List Boom) (t : Target) : Ctx :=
  (c.forEach bs fun c b => c.judgeBoom b t).takePoints

/-- The named booms are judged, and the Fault Supervisor does its work before the crossing state changes: FAULT_RAISED and
MODE stand ahead of CROSSING_STATE (R93, R121). -/
def Ctx.judge (c : Ctx) (bs : List Boom) (t : Target) : Ctx := (c.judgePoints bs t).deriveMode

/-- An entry to CLOSED now would go on to RAISING in its own event: a min closed time of 0, no demand, no record imminent
(R88, R89). -/
def closingOpens (s : State) : Bool :=
  s.settings.timers.minClosed == 0 && s.seq.demands.isEmpty && !anyImminent s.trk s.now s.settings.secondWindow

/-- The judgement at a limit that enters CLOSED. DESIGN CHOICE: where the same event goes on to RAISING, whose targets may end
the conditions just judged (R106), the mode waits for the end of the event, after all its points, so that it is derived once
(R121, log 12). -/
def Ctx.judgeClosing (c : Ctx) (bs : List Boom) : Ctx :=
  let c := c.judgePoints bs .lower
  if closingOpens c.s then c else c.deriveMode

/-- AMBER_EXPIRY (R79). -/
def execAmberExpiry (s : State) : Host.Outcome State Fault Refusal :=
  .next (s.whenRunning fun s => s.onExpiry s.seq.amberDue fun s => s.event fun c =>
    let c := c.modSeq fun q => { q with amberDue := none }
    if c.s.seq.state = .amber then c.enterRedWarn else c)

/-- RED_WARN_EXPIRY (R80). -/
def execRedWarnExpiry (s : State) : Host.Outcome State Fault Refusal :=
  .next (s.whenRunning fun s => s.onExpiry s.seq.redWarnDue fun s => s.event fun c =>
    let c := c.modSeq fun q => { q with redWarnDue := none }
    if c.s.seq.state = .redWarn then c.enterEntryLower else c)

/-- ENTRY_TRAVEL_LIMIT_EXPIRY: START_CLOSE goes to CLOSED (R77), ENTRY_LOWER to CLEARANCE (R81). -/
def execEntryTravelLimitExpiry (s : State) : Host.Outcome State Fault Refusal :=
  .next (s.whenRunning fun s => s.onExpiry s.seq.entryDue fun s => s.event fun c =>
    let c := c.modSeq fun q => { q with entryDue := none }
    match c.s.seq.state with
    | .startClose => (c.judgeClosing allBooms).enterClosed
    | .entryLower => (c.judge entryBooms .lower).enterClearance
    | _ => c)

/-- CLEARANCE_SETTLE_EXPIRY (R83). -/
def execClearanceSettleExpiry (s : State) : Host.Outcome State Fault Refusal :=
  .next (s.whenRunning fun s => s.onExpiry s.seq.settleDue fun s => s.event fun c =>
    let c := c.modSeq fun q => { q with settleDue := none }
    if c.s.seq.state = .clearance then c.enterExitLower else c)

/-- CLEARANCE_LIMIT_EXPIRY: the condition of FP27 is presented, and the state stays CLEARANCE (R84). -/
def execClearanceLimitExpiry (s : State) : Host.Outcome State Fault Refusal :=
  .next (s.whenRunning fun s => s.onExpiry s.seq.clearLimitDue fun s => s.event fun c =>
    let c := c.modSeq fun q => { q with clearLimitDue := none }
    if c.s.seq.state = .clearance then c.notice fpObstructed true (some .clearanceLimit) else c)

/-- EXIT_TRAVEL_LIMIT_EXPIRY (R86). -/
def execExitTravelLimitExpiry (s : State) : Host.Outcome State Fault Refusal :=
  .next (s.whenRunning fun s => s.onExpiry s.seq.exitDue fun s => s.event fun c =>
    let c := c.modSeq fun q => { q with exitDue := none }
    if c.s.seq.state = .exitLower then (c.judgeClosing exitBooms).enterClosed else c)

/-- MIN_CLOSED_EXPIRY: the opening check is made (R88, R89). -/
def execMinClosedExpiry (s : State) : Host.Outcome State Fault Refusal :=
  .next (s.whenRunning fun s => s.onExpiry s.seq.minClosedDue fun s => s.event fun c =>
    (c.modSeq fun q => { q with minClosedDue := none }).openingCheck)

/-- RAISE_TRAVEL_LIMIT_EXPIRY: the booms not UP are judged, and the crossing stays RAISING (R90). -/
def execRaiseTravelLimitExpiry (s : State) : Host.Outcome State Fault Refusal :=
  .next (s.whenRunning fun s => s.onExpiry s.seq.raiseDue fun s => s.event fun c =>
    let c := c.modSeq fun q => { q with raiseDue := none }
    if c.s.seq.state = .raising then c.judge allBooms .raise else c)

/-- TEST_TRAVEL_LIMIT_EXPIRY: the tested boom is judged against its test target (R93, R99). -/
def execTestTravelLimitExpiry (boom : Boom) (s : State) : Host.Outcome State Fault Refusal :=
  .next (s.whenRunning fun s => s.onExpiry s.seq.testDue[boom] fun s => s.event fun c =>
    let c := c.modSeq fun q => { q with testDue := put q.testDue boom none }
    if c.s.seq.state = .test then c.judge [boom] (c.s.seq.drives[boom]).target else c)

/-- A drive's pause ends: its output becomes its target as it then stands (R92). -/
def Drive.endPause (d : Drive) : Drive := ⟨DriveOut.ofTarget d.target, d.target, none⟩

/-- REVERSAL_PAUSE_EXPIRY (R92). -/
def execReversalPauseExpiry (boom : Boom) (s : State) : Host.Outcome State Fault Refusal :=
  .next (s.whenRunning fun s => s.onExpiry (s.seq.drives[boom]).pauseDue fun s =>
    { s with seq := { s.seq with drives := upd s.seq.drives boom Drive.endPause } })

/-- The flasher's phase changes and its timer starts again, with the flash period in force (R71, R94, log 18). -/
def Flasher.change (f : Flasher) (now : Time) (period : Nat) : Flasher :=
  ⟨!f.right, max (2 * now) f.dueHalves + period⟩

/-- FLASH_PHASE_EXPIRY: the lit and dark reds exchange, and the check timers of all four reds start (R94, R107). -/
def execFlashPhaseExpiry (s : State) : Host.Outcome State Fault Refusal :=
  .next (s.whenRunning fun s => s.onExpiry (s.seq.flasher.map fun f => f.dueHalves / 2) fun s =>
    { s with
      seq := { s.seq with flasher := s.seq.flasher.map fun f => f.change s.now s.settings.timers.flashPeriod }
      prv := reds.foldl (fun p i => p.startCheck s.now i) s.prv })

end Sys2Proof.Machine
end

