-- ==== Sys2Proof/Machine/Reset.lean ====
section
/-! DEFINITION. The resets: part reset, its end, the end of a run, and the host reset (R132, R167, R188). -/

namespace Sys2Proof.Machine

/-- The levels on the field pins outlast a reset of the part (log 5): they are the field's. -/
def Proving.withPins (p q : Proving) : Proving :=
  { p with
    contacts := Vector.ofFn fun (i : Fin 16) => { p.contacts[i] with raw := (q.contacts[i]).raw }
    lamps := Vector.ofFn fun (i : Fin 8) => { p.lamps[i] with sense := (q.lamps[i]).sense } }

/-- Every block takes its part-reset state (R188); the queue of commands and the pins are not the part's. -/
def State.toReset (s : State) : State :=
  { State.reset with pending := s.pending, prv := State.reset.prv.withPins s.prv }

/-- PART_RESET: power-up or the reset input (R188). -/
def execPartReset (s : State) : Host.Outcome State Fault Refusal := .next s.toReset

/-- RUN_END_RESET: crossing time reaches FFFFFF00h, and the part resets itself (R188). -/
def execRunEndReset (s : State) : Host.Outcome State Fault Refusal := .next (s.whenRunning State.toReset)

/-- The Proving Unit's start: each boom mask, the settle timers of the other contacts, every lamp check timer (R102, R103,
R107). -/
def Proving.start (p : Proving) (now : Time) : Proving :=
  let p := allBooms.foldl (fun p b => p.maskBoom b now) p
  let p := ([12, 13, 14, 15] : List (Fin 16)).foldl (fun p i => p.followContact i now) p
  allLamps.foldl (fun p i => p.startCheck now i) p

/-- A section's STARTUP condition, as the run begins (R32). -/
def Ctx.startupNotice (c : Ctx) (i : Sec) : Ctx := c.notice (secPoint i) true (some (.section_ .startup))

/-- The blocks' start in the first event of a run (R188): STARTUP first, then the first load, H1's slot, the six SECTION
demands and conditions, and the timers. -/
def Ctx.beginRun (c : Ctx) : Ctx :=
  let c := c.stage .startup
  let c := c.map fun s => s.startLoad .first
  let c := c.map fun s => { s with line := s.line.beginSlot 0 s.now }
  let c := c.forEach allSecs fun c i => c.raise (.section_ i)
  let c := c.forEach allSecs Ctx.startupNotice
  let c := c.modPrv fun p => p.start c.s.now
  c.modLink fun l => { l with timerDue := c.after c.s.settings.linkTimeout }

/-- PART_RESET_END: the first event of a run, at crossing time 0 (R188). -/
def execPartResetEnd (s : State) : Host.Outcome State Fault Refusal :=
  .next (if s.running then s else { s with running := true, now := 0 }.event Ctx.beginRun)

/-- The producer shadow after a host reset: the consumer index, a record being fetched counted as taken (R132). -/
def Outbox.hostReset (o : Outbox) (cap : Nat) : Outbox :=
  { o with shadow := if o.state = .fetching then nextIndex cap o.consumer else o.consumer }

/-- The memory side of a host reset (R132, R167): the upstream access in hand is abandoned without an answer. -/
def Bus.hostReset (b : Bus) : Bus :=
  let b := { b with up := none, answer := none }
  match windowOf b.windows .outbox with
  | some w => { b with outbox := b.outbox.hostReset (outboxCapacity w) }
  | none => b

/-- An outcome record cleared (R169). -/
def CmdSlot.clearOutcome (x : CmdSlot) : CmdSlot := { x with result := .none, kind := 0, tag := 0, time := none }

/-- HOST_RESET (R167). -/
def execHostReset (s : State) : Host.Outcome State Fault Refusal :=
  .next (s.whenRunning fun s => s.event fun c =>
    let c := c.stage .hostReset
    let c := c.map fun s =>
      { s with
        bus := s.bus.hostReset
        cmd := s.cmd.map CmdSlot.clearOutcome
        img := { s.img with snapshot := none } }
    c.exitNotice .hostReset)

end Sys2Proof.Machine
end

