-- ==== Sys2Proof/Machine/Dispatch.lean ====
section
/-! DEFINITION. One arm per command: the meaning of each row of spec/opcode_table.json. -/

namespace Sys2Proof.Machine

/-- A command's effect on everything but the queue. -/
def exec (i : Instr) (s : State) : Host.Outcome State Fault Refusal :=
    match i with
    | .partReset => Sys2Proof.Machine.execPartReset s
    | .runEndReset => Sys2Proof.Machine.execRunEndReset s
    | .partResetEnd => Sys2Proof.Machine.execPartResetEnd s
    | .hostReset => Sys2Proof.Machine.execHostReset s
    | .slotStart => Sys2Proof.Machine.execSlotStart s
    | .replyWindowOpen brk => Sys2Proof.Machine.execReplyWindowOpen brk s
    | .headReplyComplete value framing noise => Sys2Proof.Machine.execHeadReplyComplete value framing noise s
    | .replyWindowClose => Sys2Proof.Machine.execReplyWindowClose s
    | .headLineBreak => Sys2Proof.Machine.execHeadLineBreak s
    | .outcomeTake => Sys2Proof.Machine.execOutcomeTake s
    | .handOver => Sys2Proof.Machine.execHandOver s
    | .overdueExpiry slot => Sys2Proof.Machine.execOverdueExpiry slot s
    | .restartTimeoutExpiry slot => Sys2Proof.Machine.execRestartTimeoutExpiry slot s
    | .deadlineExpiry slot => Sys2Proof.Machine.execDeadlineExpiry slot s
    | .predictionGraceExpiry slot => Sys2Proof.Machine.execPredictionGraceExpiry slot s
    | .computationStart => Sys2Proof.Machine.execComputationStart s
    | .computationComplete => Sys2Proof.Machine.execComputationComplete s
    | .amberExpiry => Sys2Proof.Machine.execAmberExpiry s
    | .redWarnExpiry => Sys2Proof.Machine.execRedWarnExpiry s
    | .entryTravelLimitExpiry => Sys2Proof.Machine.execEntryTravelLimitExpiry s
    | .clearanceSettleExpiry => Sys2Proof.Machine.execClearanceSettleExpiry s
    | .clearanceLimitExpiry => Sys2Proof.Machine.execClearanceLimitExpiry s
    | .exitTravelLimitExpiry => Sys2Proof.Machine.execExitTravelLimitExpiry s
    | .minClosedExpiry => Sys2Proof.Machine.execMinClosedExpiry s
    | .raiseTravelLimitExpiry => Sys2Proof.Machine.execRaiseTravelLimitExpiry s
    | .testTravelLimitExpiry boom => Sys2Proof.Machine.execTestTravelLimitExpiry boom s
    | .reversalPauseExpiry boom => Sys2Proof.Machine.execReversalPauseExpiry boom s
    | .flashPhaseExpiry => Sys2Proof.Machine.execFlashPhaseExpiry s
    | .contactInputChange input made => Sys2Proof.Machine.execContactInputChange input made s
    | .contactSettleExpiry input => Sys2Proof.Machine.execContactSettleExpiry input s
    | .boomMaskEnd boom => Sys2Proof.Machine.execBoomMaskEnd boom s
    | .lampCheckExpiry item => Sys2Proof.Machine.execLampCheckExpiry item s
    | .lampSenseChange item lit => Sys2Proof.Machine.execLampSenseChange item lit s
    | .linkCharacter value lead framing => Sys2Proof.Machine.execLinkCharacter value lead framing s
    | .linkBreak start => Sys2Proof.Machine.execLinkBreak start s
    | .pauseExpiry => Sys2Proof.Machine.execPauseExpiry s
    | .longBreak => Sys2Proof.Machine.execLongBreak s
    | .linkTimeout => Sys2Proof.Machine.execLinkTimeout s
    | .poll body => Sys2Proof.Machine.execPoll body s
    | .signallerAckFault body => Sys2Proof.Machine.execSignallerAckFault body s
    | .ackAll body => Sys2Proof.Machine.execAckAll body s
    | .restoreSection body => Sys2Proof.Machine.execRestoreSection body s
    | .signallerHoldClosed body => Sys2Proof.Machine.execSignallerHoldClosed body s
    | .signallerReleaseHold body => Sys2Proof.Machine.execSignallerReleaseHold body s
    | .releaseLocal body => Sys2Proof.Machine.execReleaseLocal body s
    | .waiveClearance body => Sys2Proof.Machine.execWaiveClearance body s
    | .permitMaint body => Sys2Proof.Machine.execPermitMaint body s
    | .withdrawPermit body => Sys2Proof.Machine.execWithdrawPermit body s
    | .setWarningGroup pos entry warning margin => Sys2Proof.Machine.execSetWarningGroup pos entry warning margin s
    | .setWarning body => Sys2Proof.Machine.execSetWarning body s
    | .status body => Sys2Proof.Machine.execStatus body s
    | .frameRefusedKind kind body => Sys2Proof.Machine.execFrameRefusedKind kind body s
    | .transmitFrameDone => Sys2Proof.Machine.execTransmitFrameDone s
    | .snapshot addr word => Sys2Proof.Machine.execSnapshot addr word s
    | .holdClosed addr tag => Sys2Proof.Machine.execHoldClosed addr tag s
    | .releaseHold addr tag => Sys2Proof.Machine.execReleaseHold addr tag s
    | .haltRestart addr tag => Sys2Proof.Machine.execHaltRestart addr tag s
    | .ackFault addr tag => Sys2Proof.Machine.execAckFault addr tag s
    | .enterMaint addr tag => Sys2Proof.Machine.execEnterMaint addr tag s
    | .leaveMaint addr tag => Sys2Proof.Machine.execLeaveMaint addr tag s
    | .testOutput addr tag => Sys2Proof.Machine.execTestOutput addr tag s
    | .reloadSettings addr tag => Sys2Proof.Machine.execReloadSettings addr tag s
    | .ringConsumerWrite addr value => Sys2Proof.Machine.execRingConsumerWrite addr value s
    | .outboxProducerWrite addr value => Sys2Proof.Machine.execOutboxProducerWrite addr value s
    | .hostWrite addr word data => Sys2Proof.Machine.execHostWrite addr word data s
    | .upstreamAccessComplete data => Sys2Proof.Machine.execUpstreamAccessComplete data s
    | .portGrant => Sys2Proof.Machine.execPortGrant s
    | .outboxFetchStart => Sys2Proof.Machine.execOutboxFetchStart s
    | .outboxFetchComplete record => Sys2Proof.Machine.execOutboxFetchComplete record s
    | .outboxConsumerWriteComplete => Sys2Proof.Machine.execOutboxConsumerWriteComplete s
    | .ringWriteStart => Sys2Proof.Machine.execRingWriteStart s
    | .ringRecordWriteComplete => Sys2Proof.Machine.execRingRecordWriteComplete s
    | .ringProducerWriteComplete => Sys2Proof.Machine.execRingProducerWriteComplete s
    | .ringHeaderWriteComplete => Sys2Proof.Machine.execRingHeaderWriteComplete s
    | .settingWordReadComplete data => Sys2Proof.Machine.execSettingWordReadComplete data s
    | .loadCompletion data => Sys2Proof.Machine.execLoadCompletion data s
    | .retryExpiry => Sys2Proof.Machine.execRetryExpiry s
    | .hostRead addr word => Sys2Proof.Machine.execHostRead addr word s
    | .headReplyCharacter value framing noise => Sys2Proof.Machine.execHeadReplyCharacter value framing noise s
    | .linkBreakEnd => Sys2Proof.Machine.execLinkBreakEnd s

end Sys2Proof.Machine
end

