-- ==== Sys2Proof/Machine/Step.lean ====
section
/-! DEFINITION. One step: the command at the front of the queue, or one millisecond of crossing time. -/

namespace Sys2Proof.Machine

/-- A step on an empty queue (log 1): crossing time rises by one while the part runs, and the run ends by part reset when it
reaches FFFFFF00h (R188). In part reset nothing happens. -/
def State.tick (s : State) : State :=
  s.whenRunning fun s => if s.now + 1 < Config.runEnd then { s with now := s.now + 1 } else s.toReset

/-- Take the command at the front of the queue, and run it with the queue's rest. -/
def step (s : State) : Host.Outcome State Fault Refusal :=
  match s.pending with
  | [] => .next s.tick
  | c :: rest => exec c { s with pending := rest }

/-- The command that a word spells, put at the front of the queue (log 34: no row of the table gives bits). -/
def State.withFetchWord (s : State) (nbits w : Nat) : State :=
  match decodeTableWord nbits w with
  | some c => { s with pending := c :: s.pending }
  | none => s

end Sys2Proof.Machine
end

