-- ==== Sys2Proof/Safety.lean ====
section
/-! DEFINITION. What claims about a run speak of: which parts of the state a command may change, and the conditions that
every step keeps. -/

namespace Sys2Proof.Machine

/-! ## Frames -/

/-- The parts of `State`, one for each of its fields. -/
inductive Part where
  | pending | running | now | settings | line | secs | trk | pred | seq | prv | flt | queue | link | bus | cmd | img | ldr
  deriving DecidableEq, Repr

/-- A part is the same in two states. -/
def Part.same (s t : State) : Part → Prop
  | .pending => t.pending = s.pending
  | .running => t.running = s.running
  | .now => t.now = s.now
  | .settings => t.settings = s.settings
  | .line => t.line = s.line
  | .secs => t.secs = s.secs
  | .trk => t.trk = s.trk
  | .pred => t.pred = s.pred
  | .seq => t.seq = s.seq
  | .prv => t.prv = s.prv
  | .flt => t.flt = s.flt
  | .queue => t.queue = s.queue
  | .link => t.link = s.link
  | .bus => t.bus = s.bus
  | .cmd => t.cmd = s.cmd
  | .img => t.img = s.img
  | .ldr => t.ldr = s.ldr

/-- Every part but those listed is the same in two states. -/
def SameOutside (l : List Part) (s t : State) : Prop := ∀ p, p ∉ l → p.same s t

/-- The parts that a command may change (R167 and R188 for the resets; each row's own rule for the others). -/
def touches : Instr → List Part
  | .partReset | .runEndReset | .partResetEnd =>
    [.running, .now, .settings, .line, .secs, .trk, .pred, .seq, .prv, .flt, .queue, .link, .bus, .cmd, .img, .ldr]
  | .hostReset => [.trk, .seq, .prv, .flt, .queue, .bus, .cmd, .img, .ldr]
  | .slotStart | .replyWindowOpen _ | .replyWindowClose => [.now, .line]
  | .headReplyComplete _ _ _ | .headReplyCharacter _ _ _ | .headLineBreak => [.line]
  | .outcomeTake | .handOver => [.line, .secs, .trk, .pred, .seq, .prv, .flt, .queue, .bus, .ldr]
  | .overdueExpiry _ | .restartTimeoutExpiry _ | .deadlineExpiry _ | .predictionGraceExpiry _ =>
    [.now, .trk, .seq, .prv, .flt, .queue, .bus]
  | .computationStart => [.pred]
  | .computationComplete => [.now, .trk, .pred, .seq, .prv, .flt, .queue, .bus]
  | .amberExpiry | .redWarnExpiry | .entryTravelLimitExpiry | .clearanceSettleExpiry | .clearanceLimitExpiry
  | .exitTravelLimitExpiry | .minClosedExpiry | .raiseTravelLimitExpiry | .testTravelLimitExpiry _ =>
    [.now, .trk, .seq, .prv, .flt, .queue, .bus]
  | .reversalPauseExpiry _ => [.now, .seq]
  | .flashPhaseExpiry => [.now, .seq, .prv]
  | .contactInputChange _ _ => [.prv]
  | .contactSettleExpiry _ => [.now, .trk, .seq, .prv, .flt, .queue, .bus, .ldr]
  | .boomMaskEnd _ => [.now, .prv]
  | .lampCheckExpiry _ => [.now, .trk, .seq, .prv, .flt, .queue, .bus]
  | .lampSenseChange _ _ => [.trk, .seq, .prv, .flt, .queue, .bus]
  | .linkBreak _ => [.link, .bus]
  | .linkBreakEnd | .transmitFrameDone => [.link]
  | .pauseExpiry => [.now, .link, .bus]
  | .longBreak => [.now, .queue, .link, .bus]
  | .linkTimeout => [.now, .trk, .seq, .prv, .flt, .queue, .link, .bus]
  | .setWarningGroup _ _ _ _ => [.pred, .link]
  | .linkCharacter _ _ _ => [.line, .secs, .trk, .pred, .seq, .prv, .flt, .queue, .link, .bus, .ldr]
  | .poll _ | .signallerAckFault _ | .ackAll _ | .signallerHoldClosed _ | .signallerReleaseHold _ | .releaseLocal _
  | .waiveClearance _ | .permitMaint _ | .setWarning _ | .status _ | .frameRefusedKind _ _ =>
    [.trk, .seq, .prv, .flt, .queue, .link, .bus]
  | .restoreSection _ => [.line, .secs, .trk, .seq, .prv, .flt, .queue, .link, .bus, .ldr]
  | .withdrawPermit _ => [.trk, .seq, .prv, .flt, .queue, .link, .bus, .ldr]
  | .snapshot _ _ | .hostRead _ _ => [.bus, .img]
  | .holdClosed _ _ | .releaseHold _ _ | .haltRestart _ _ | .ackFault _ _ | .enterMaint _ _ | .leaveMaint _ _
  | .testOutput _ _ | .reloadSettings _ _ | .ringConsumerWrite _ _ | .outboxProducerWrite _ _ | .hostWrite _ _ _ =>
    [.trk, .seq, .prv, .flt, .queue, .bus, .cmd, .ldr]
  | .upstreamAccessComplete _ => [.bus, .cmd]
  | .portGrant | .outboxFetchStart | .outboxConsumerWriteComplete | .ringWriteStart | .ringRecordWriteComplete
  | .ringProducerWriteComplete | .ringHeaderWriteComplete => [.bus]
  | .outboxFetchComplete _ => [.queue, .bus]
  | .settingWordReadComplete _ | .loadCompletion _ =>
    [.settings, .trk, .pred, .seq, .prv, .flt, .queue, .link, .bus, .cmd, .img, .ldr]
  | .retryExpiry => [.now, .bus, .ldr]

/-- The part is in part reset: every block in its part-reset state, with the queue, and the levels of the pins, as they
were in `s` (R188, log 5). -/
structure InReset (s t : State) : Prop where
  blocks : SameOutside [.pending, .prv] State.reset t
  queue : t.pending = s.pending
  masks : t.prv.masks = Vector.replicate 4 none
  booms : t.prv.booms = Vector.replicate 4 none
  contacts : ∀ i : Fin 16,
    (t.prv.contacts[i]).settled = (Contact.resetAll[i]).settled ∧ (t.prv.contacts[i]).due = none ∧
    (t.prv.contacts[i]).raw = (s.prv.contacts[i]).raw
  lamps : ∀ i : Lamp, t.prv.lamps[i] = ⟨(s.prv.lamps[i]).sense, none, false, none⟩

/-! ## What a whole frame and a host access do beside their own work -/

/-- A whole frame ended at `s`: the link timer starts again, the link is UP and the parser hunts (R135, R138, R151, R152). -/
structure FrameTaken (s t : State) : Prop where
  timer : t.link.timerDue = some (s.now + s.settings.linkTimeout)
  last : t.link.lastWhole = some s.now
  up : t.link.lost = false
  hunt : t.link.rx = none
  pause : t.link.pauseDue = none

/-- The row of a whole frame, by its kind (R138, 12_formats.md). -/
def frameRow (kind : Byte) (body : List Byte) : Instr :=
  match kind.toNat with
  | 1 => .poll body
  | 2 => .signallerAckFault body
  | 3 => .ackAll body
  | 4 => .restoreSection body
  | 5 => .signallerHoldClosed body
  | 6 => .signallerReleaseHold body
  | 7 => .releaseLocal body
  | 8 => .waiveClearance body
  | 9 => .permitMaint body
  | 10 => .withdrawPermit body
  | 11 => .setWarning body
  | 12 => .status body
  | _ => .frameRefusedKind kind body

/-- A frame was handed to the transmitter: it is sending, or it is the buffered frame behind the one sending (R139). -/
def Transmitted (s t : State) (frame : List Byte) : Prop :=
  match s.link.sending with
  | none => t.link.sending = some ⟨frame, s.settings.rate⟩
  | some x => t.link.sending = some x ∧ t.link.buffered = some frame

/-- A command frame was carried out and answered (R138, R142). -/
def Answered (s t : State) (kind : Byte) (r : AnsResult) : Prop :=
  FrameTaken s t ∧ t.link.toggle = s.link.toggle ∧
  Transmitted s t (linkFrame s.settings.address kindAnswer [kind, byte r.code, 0])

/-- The host can make an access that is decided at once: the part runs, is out of STARTING and has no access in hand
(R155, R165). -/
structure HostReady (s : State) : Prop where
  runs : s.running = true
  started : s.seq.state ≠ .starting
  free : s.bus.up = none

/-- The byte address is the trigger of a command slot (R160). -/
def AtTrigger (s : State) (addr : Addr) (i : Slot) : Prop :=
  ∃ w, windowAt s.bus.windows addr.toNat = some w ∧ w.kind = .command ∧ addr.toNat = w.first + 32 * i.val

/-- An access was passed to memory: it is in hand, waiting for the port or granted it, and not yet answered (R155). -/
def Passed (t : State) (a : HostAccess) (e : Effect) : Prop :=
  t.bus.answer = none ∧ ∃ u, t.bus.up = some u ∧ u.acc = a ∧ u.effect = e ∧ (u.phase = .waiting ∨ u.phase = .granted)

/-- A trigger was admitted: its outcome is recorded and its write is passed (R170). -/
def Admitted (s t : State) (addr : Addr) (i : Slot) (kind : Nat) (tag : Byte) : Prop :=
  t.cmd = put s.cmd i { s.cmd[i] with result := .accepted, kind := byte kind, tag := tag, time := some s.now } ∧
  Passed t (triggerAccess addr kind tag) .none

/-- The state after a refused trigger: FAULT, the outcome record, and CMD_REFUSED (R160, R170). -/
def State.afterRefusal (s : State) (i : Slot) (kind : Nat) (tag : Byte) (r : CmdResult) : State :=
  { s with
    bus := { s.bus with answer := some .fault }.stage s.now
      (.cmdRefused i (byte kind) tag (s.cmd[i]).argA (s.cmd[i]).argB r)
    cmd := put s.cmd i { s.cmd[i] with result := r, kind := byte kind, tag := tag, time := some s.now } }

/-- The state after an access that the Pass-Through Unit refuses (R162). -/
def State.afterDenial (s : State) (a : HostAccess) (region : Option WinKind) (offset : Nat) (cause : DenyCause) : State :=
  { s with bus := { s.bus with answer := some .fault }.stage s.now (.writeDenied a.addr a.word region offset cause) }

/-- The access held through STARTING was refused: FAULT, with nothing in hand and no snapshot taken. -/
def HeldRefused (s t : State) : Prop := t.bus.up = none ∧ t.bus.answer = some .fault ∧ t.img = s.img

/-- What became of the access held through STARTING, by the window table in force at the end of STARTING (R158 to R161, R165,
R170, R172): outside windows and in the parts of a window that pass it is passed; an odd word that touches a window and a
write that its window does not take are refused; a whole-word trigger is decided and its outcome recorded; a read of IMAGE is
answered from the snapshot, which a read of its offset 0 takes first. -/
def HeldDecided (s t : State) (a : HostAccess) : Prop :=
  let ws := t.bus.windows
  let odd := a.word = true ∧ a.addr.getLsbD 0 = true ∧
    (windowAt ws a.addr.toNat ≠ none ∨ windowAt ws (a.addr + 1).toNat ≠ none)
  let passed := fun e => t.img = s.img ∧ Passed t a e
  (odd → HeldRefused s t) ∧
  (¬ odd → windowAt ws a.addr.toNat = none → passed .none) ∧
  (¬ odd → ∀ w, windowAt ws a.addr.toNat = some w →
    let off := a.addr.toNat - w.first
    (a.write = false → w.kind ≠ .image → passed .none) ∧
    (a.write = false → w.kind = .image → t.bus.up = none ∧
      (off = 0 → t.img.serial = (if s.img.serial = 65535 then 1 else s.img.serial + 1) ∧ t.img.snapshot.isSome = true ∧
        t.bus.answer = some (.complete
          (if a.word then BitVec.ofNat 16 t.img.serial else BitVec.ofNat 16 (t.img.serial % 256)))) ∧
      (off ≠ 0 → t.img = s.img ∧ (s.img.snapshot = none → t.bus.answer = some (.complete 0)))) ∧
    (a.write = true → w.kind = .image ∨ (w.kind = .guarded ∧ t.flt.mode ≠ .maintenance) ∨
      (w.kind = .command ∧ off % 32 < 2 ∧ a.word = false) ∨ (w.kind = .eventRing ∧ ¬ (off = 2 ∧ a.word = true)) ∨
      (w.kind = .outbox ∧ off < 4 ∧ ¬ (off = 0 ∧ a.word = true)) → HeldRefused s t) ∧
    (a.write = true → (w.kind = .command ∧ 6 ≤ off % 32) ∨ (w.kind = .outbox ∧ 4 ≤ off) → passed .none) ∧
    (a.write = true → w.kind = .command → ∀ i : Slot, off / 32 = i.val → 2 ≤ off % 32 → off % 32 < 6 →
      passed (.argument i (decide (4 ≤ off % 32)) (if a.word then none else some (a.addr.getLsbD 0)))) ∧
    (a.write = true → w.kind = .command → a.word = true → off % 32 < 2 → ∀ i : Slot, off / 32 = i.val →
      (t.cmd[i]).kind = loByte a.data ∧ (t.cmd[i]).tag = hiByte a.data ∧ (t.cmd[i]).time = some t.now ∧
      ((t.cmd[i]).result = .accepted → passed .none) ∧ ((t.cmd[i]).result ≠ .accepted → HeldRefused s t) ∧
      (loByte a.data = 1 → (t.cmd[i]).result = .accepted ∧ t.seq.demands.localHold.isSome = true) ∧
      (loByte a.data = 2 → (t.cmd[i]).result = .accepted ∧ t.seq.demands.localHold = none)) ∧
    (a.write = true → w.kind = .eventRing → a.word = true → off = 2 →
      let v := a.data.toNat
      let cap := (256 * w.units - 16) / 16
      let r := t.bus.ring
      let ok := v < cap ∧ (v + cap - r.consumer) % cap ≤ (r.producer + cap - r.consumer) % cap
      (ok → passed (.ringConsumer w v)) ∧ (¬ ok → HeldRefused s t)) ∧
    (a.write = true → w.kind = .outbox → a.word = true → off = 0 →
      let v := a.data.toNat
      let cap := (256 * w.units - 32) / 32
      let o := t.bus.outbox
      let ok := v < cap ∧ (v + cap - o.shadow) % cap ≤ cap - 1 - (o.shadow + cap - o.consumer) % cap
      (ok → passed (.outboxProducer w v)) ∧ (¬ ok → HeldRefused s t)))

/-! ## Claims, staged events and refused lengths -/

/-- A claimant has an access on the port, or claims the port for it (R163). -/
def Claims (b : Bus) (who : Claimant) (a : MemAccess) : Prop :=
  (∃ c, b.claimOf who = some c ∧ c.acc = a) ∨ b.port = some ⟨who, a⟩

/-- With room for them and nothing missed, these are the first events staged, in this order (R175). -/
def Staged (s t : State) (es : List EventBody) : Prop :=
  s.bus.ring.missed = 0 → s.bus.ring.staging.length + es.length ≤ 32 →
    ∃ more, t.bus.ring.staging = s.bus.ring.staging ++ es.map (fun e => ⟨t.now, e⟩) ++ more

/-- With `room` free places and nothing missed, the event is among those staged (R175). -/
def StagedAmong (s t : State) (room : Nat) (e : EventBody) : Prop :=
  s.bus.ring.missed = 0 → s.bus.ring.staging.length + room ≤ 32 → ⟨t.now, e⟩ ∈ t.bus.ring.staging

/-- With nothing missed before, the event is among those staged unless the staging queue is full and an event of the command
was dropped (R175). -/
def StagedOrFull (s t : State) (e : EventBody) : Prop :=
  s.bus.ring.missed = 0 →
    ⟨t.now, e⟩ ∈ t.bus.ring.staging ∨ (32 ≤ t.bus.ring.staging.length ∧ 0 < t.bus.ring.missed)

/-- The cause of a HEAD_STATE event is the outcome, or SENSOR_FAULT or IMPLAUSIBLE where it applies (R16). -/
def CausedBy (o : OutcomeRec) (c : HeadCause) : Prop :=
  match c, o.reply with
  | .silent, _ => o.outcome = .silent
  | .garbled, _ => o.outcome = .garbled
  | .wrongHead, _ => o.outcome = .wrongHead
  | .broken, _ => o.outcome = .broken
  | .sensorFault, some g => o.outcome = .good ∧ g.sensorFault = true
  | .implausible, some g => o.outcome = .good ∧ g.sensorFault = false ∧
      (o.stateBefore = .active ∨ o.stateBefore = .missing) ∧
      ¬ ((g.ab - o.heldAB).toNat ≤ 64 ∧ (g.ba - o.heldBA).toNat ≤ 64)
  | .good, some g => o.outcome = .good ∧ g.sensorFault = false ∧
      ((o.stateBefore = .active ∨ o.stateBefore = .missing) →
        (g.ab - o.heldAB).toNat ≤ 64 ∧ (g.ba - o.heldBA).toNat ≤ 64)
  | .sensorFault, none | .implausible, none | .good, none => False

/-- The lengths that fit a signaller kind: one character for POLL, ACK_FAULT and RESTORE_SECTION, one to four groups of six
for SET_WARNING, none for the others (R138, R146, 12_formats.md). -/
def LengthFits (kind : Byte) (n : Nat) : Prop :=
  match kind.toNat with
  | 1 | 2 | 4 => n = 1
  | 11 => n = 6 ∨ n = 12 ∨ n = 18 ∨ n = 24
  | _ => n = 0

/-- The characters received after the lead end a group of a SET_WARNING whose group check is good (R146). -/
def EndsGroup (cs : List Byte) : Prop :=
  let len := (cs.getD 1 0).toNat
  cs.getD 0 0 = 0x0B ∧ (len = 6 ∨ len = 12 ∨ len = 18 ∨ len = 24) ∧
  (∃ pos : Fin 4, cs.length = 8 + 6 * pos.val ∧ 6 * (pos.val + 1) ≤ len) ∧ (cs.drop (cs.length - 6)).foldl (· + ·) 0 = 0

/-- The state after a character of a frame in reception that fills a position and ends nothing (R135, R137). -/
def State.afterFill (s : State) (cs : List Byte) (v : Byte) : State :=
  { s with link := { s.link with rx := some (cs ++ [v]), pauseDue := some (s.now + 500) } }

/-! ## Movements and records -/

/-- A record gives up wheels of a section first: it is the record nearest the head that they cross of those that hold wheels
there, the side-B-most for AB and the side-A-most for BA (R40, R41). -/
def FirstGiver (s : State) (i : Sec) (dir : Dir) (j : Slot) : Prop :=
  ∃ before after, s.trk.order (secTrack i) = before ++ j :: after ∧
    ∀ x ∈ (if dir = .ab then after else before), ∀ q, s.trk.recs[x] = some q → q.wheelsIn i = 0

/-- R44's table: a record's status by its wheels, its heading, and whether it was STOPPED. -/
def StatusFollows (was : Status) (r : TrainRec) : Prop :=
  let spread := 0 < r.wIsland ∨ (0 < r.wEntry ∧ 0 < r.wExit)
  let toRoad := r.heading = inward (if 0 < r.wEntry then r.entrySide else r.entrySide.other)
  (spread → r.status = .crossing) ∧ (¬ spread → ¬ toRoad → r.status = .departing) ∧
  (¬ spread → toRoad → r.status = if was = .stopped then .stopped else .approaching)

/-- A movement took no wheels of a record: it keeps its wheels, its heading and its status. -/
def RecordUntouched (s t : State) (x : Slot) : Prop :=
  ∀ q, s.trk.recs[x] = some q → 0 < q.total → ∃ q', t.trk.recs[x] = some q' ∧ q'.gen = q.gen ∧
    q'.wEntry = q.wEntry ∧ q'.wIsland = q.wIsland ∧ q'.wExit = q.wExit ∧ q'.heading = q.heading ∧ q'.status = q.status

/-- The entry is the train report of a record, and its kinds include one (R55). -/
def ReportsKind (e : Entry) (i : Slot) (r : TrainRec) (has : Kinds → Bool) : Prop :=
  match e.content with
  | .train j g k side kinds _ _ _ => j = i ∧ g = r.gen ∧ k = r.track ∧ side = r.entrySide ∧ has kinds = true
  | _ => False

/-! ## A fault point's entry and its report -/

/-- The command ended maintenance (R100, R118). -/
def LeftMaintenance (s t : State) : Prop := s.flt.mode = .maintenance ∧ t.flt.mode ≠ .maintenance

/-- R113's arising, with R118's flag: the entry is FAULTY, its count rises to 255 at most, its first-raised time is set from
HEALTHY and kept from CLEARED_UNACKED, and an arising from HEALTHY in maintenance sets the flag, which the end of maintenance
clears. -/
structure RaisedBy (s t : State) (p : Point) (cause : Option Cause) : Prop where
  state : (t.flt.table[p]).state = .faulty
  count : (t.flt.table[p]).count = if (s.flt.table[p]).count < 255 then (s.flt.table[p]).count + 1 else 255
  first : (t.flt.table[p]).firstRaised = if (s.flt.table[p]).state = .healthy then some t.now else (s.flt.table[p]).firstRaised
  last : (t.flt.table[p]).lastChange = some t.now
  cause : (t.flt.table[p]).cause = cause
  flag : (t.flt.table[p]).inMaint = true ↔ ¬ LeftMaintenance s t ∧
    ((s.flt.table[p]).inMaint = true ∨ (s.flt.mode = .maintenance ∧ (s.flt.table[p]).state = .healthy))

/-- R113's going: FAULTY becomes CLEARED_UNACKED and FAULTY_ACKED becomes HEALTHY; all else but the last-change time and, at
the end of maintenance, the flag stays. -/
structure ClearedBy (s t : State) (p : Point) : Prop where
  state : (t.flt.table[p]).state = if (s.flt.table[p]).state = .faulty then .clearedUnacked else .healthy
  rest : t.flt.table[p] = { s.flt.table[p] with
    state := (t.flt.table[p]).state, lastChange := some t.now, inMaint := (t.flt.table[p]).inMaint }
  flag : (t.flt.table[p]).inMaint = true ↔ ¬ LeftMaintenance s t ∧ (s.flt.table[p]).inMaint = true

/-- The queued entry is a fault point's report (R116). -/
def Entry.ofPoint (p : Point) (e : Entry) : Bool := e.content.origin == .fault && e.content.key == some p.val

/-- No report is sent of a point that changed: its in-maintenance flag is set, or it was and the end of maintenance finds it
HEALTHY (R118). -/
def PointHushed (s t : State) (p : Point) : Prop :=
  (t.flt.table[p]).inMaint = true ∨
    (LeftMaintenance s t ∧ (s.flt.table[p]).inMaint = true ∧ (t.flt.table[p]).state = .healthy)

/-- The report of a point that changed: unless R118 keeps it back it joins at the tail, or updates the one queued in its
place, with the entry as it stands and the point's class; no entry of the queue loses its place (R116, R123, R124). -/
structure PointReported (s t : State) (p : Point) : Prop where
  hushed : PointHushed s t p → t.queue.filter (Entry.ofPoint p) = s.queue.filter (Entry.ofPoint p)
  joined : ¬ PointHushed s t p → s.queue.filter (Entry.ofPoint p) = [] →
    t.queue.filter (Entry.ofPoint p) = [⟨faultContent p t.flt.table[p], pointClass p, none, false⟩]
  updated : ¬ PointHushed s t p → ∀ x, s.queue.filter (Entry.ofPoint p) = [x] →
    t.queue.filter (Entry.ofPoint p) = [{ x with
      content := faultContent p t.flt.table[p], cls := pointClass p, changed := x.sent.isSome || x.changed }]
  places : s.queue.map (fun x => (x.content.origin, x.content.key)) <+: t.queue.map fun x => (x.content.origin, x.content.key)

/-- A point's entry, event and report follow the arising or the going of its condition; the event is staged unless the
staging queue is full (R113, R116, R118, R121, R175). -/
def PointFollows (s t : State) (p : Point) (cause : Option Cause) : Prop :=
  let e := s.flt.table[p]
  let e' := t.flt.table[p]
  (s.flt.present[p] = false → t.flt.present[p] = true → e.state = .healthy ∨ e.state = .clearedUnacked →
    RaisedBy s t p cause ∧ PointReported s t p ∧ StagedOrFull s t (.faultRaised p e.state .faulty e'.count cause)) ∧
  (s.flt.present[p] = true → t.flt.present[p] = false → e.state = .faulty ∨ e.state = .faultyAcked →
    ClearedBy s t p ∧ PointReported s t p ∧ StagedOrFull s t (.faultCleared p e.state e'.state e'.count))

/-- A point's condition and entry stay. -/
def PointKept (s t : State) (p : Point) : Prop :=
  t.flt.present[p] = s.flt.present[p] ∧ t.flt.table[p] = s.flt.table[p]

/-! ## Records that a disturbance reaches -/

/-- A record was lost in a section: it is removed with its demand, TRAIN_LOST is staged, and its report gains LOST (R42, R46,
R55). -/
structure LostIn (s t : State) (x : Slot) (r : TrainRec) (i : Sec) : Prop where
  removed : t.trk.recs[x] = none ∧ x ∉ t.trk.order r.track
  demand : t.seq.demands.get (.record x) = none
  event : StagedOrFull s t (.trainLost x r.gen i)
  report : ∃ e ∈ t.queue, ReportsKind e x r (·.lost)

/-- A section is DISTURBED after a hand-over that was counting before it. -/
def NewlyDisturbed (s t : State) (i : Sec) : Prop :=
  (s.secs.table[i]).state ≠ .disturbed ∧ (t.secs.table[i]).state = .disturbed

/-! ## The tests of a setting block -/

/-- The ranges of R181 and R71, the warning times held to their upper bound alone (R183). -/
def RangesPass (x : Settings) (table : Vector WarnEntry 4) : Prop :=
  (1 ≤ x.address.toNat ∧ x.address.toNat ≤ 250) ∧ x.rate ≤ 4 ∧ (3000 ≤ x.linkTimeout ∧ x.linkTimeout ≤ 30000) ∧
  (100 ≤ x.spacing ∧ x.spacing ≤ 400) ∧ (2000 ≤ x.trainGap ∧ x.trainGap ≤ 10000) ∧
  (30000 ≤ x.restartTimeout ∧ x.restartTimeout ≤ 300000) ∧ x.secondWindow ≤ 60000 ∧
  (2000 ≤ x.timers.amber ∧ x.timers.amber ≤ 6000) ∧ (3000 ≤ x.timers.redWarn ∧ x.timers.redWarn ≤ 10000) ∧
  (4000 ≤ x.timers.entryLimit ∧ x.timers.entryLimit ≤ 15000) ∧ (4000 ≤ x.timers.exitLimit ∧ x.timers.exitLimit ≤ 15000) ∧
  (4000 ≤ x.timers.raiseLimit ∧ x.timers.raiseLimit ≤ 15000) ∧ (1000 ≤ x.timers.clearSettle ∧ x.timers.clearSettle ≤ 5000) ∧
  (10000 ≤ x.timers.clearLimit ∧ x.timers.clearLimit ≤ 60000) ∧ x.timers.minClosed ≤ 30000 ∧
  (800 ≤ x.timers.flashPeriod ∧ x.timers.flashPeriod ≤ 1200) ∧
  ∀ n : Fin 4, (200 ≤ (table[n]).distance ∧ (table[n]).distance ≤ 4000) ∧ (table[n]).warning ≤ 120000 ∧
    (10000 ≤ (table[n]).margin ∧ (table[n]).margin ≤ 300000)

/-- A list of descriptors passes R184, by the kinds, lengths and bases of R157. -/
def DescriptorsPass (ds : List Descriptor) : Prop :=
  (∀ d ∈ ds, 1 ≤ d.kind ∧ d.kind ≤ 5 ∧ (d.kind = 1 → d.units = 4) ∧ (d.kind = 2 → d.units = 1) ∧
    (d.kind = 3 → d.units ≤ 32) ∧ (d.kind = 4 → d.units ≤ 8) ∧ 1 ≤ d.units ∧ d.units ≤ 256 ∧
    d.base ≤ 0xFFF ∧ 256 * d.base + 256 * d.units ≤ 0x100000) ∧
  (∀ k ∈ [1, 2, 3, 4], (ds.filter fun d => d.kind = k).length = 1) ∧ (ds.filter fun d => d.kind = 5).length ≤ 4 ∧
  ds.Pairwise fun x y => x.base + x.units ≤ y.base ∨ y.base + y.units ≤ x.base

/-- The first `n` descriptors of a block, from offset 3Eh. -/
def descriptors (ws : List Word) (n : Nat) : List Descriptor :=
  (List.range n).map fun k => descriptorAt ws (0x3E + 4 * k)

/-- The descriptor list of a block has `n` members: the last flag ends it, at the eighth at the latest, before the check
word (R184, 12_formats.md). -/
def ListEnds (ws : List Word) (n : Nat) : Prop :=
  1 ≤ n ∧ n ≤ 8 ∧ 0x3E + 4 * n ≤ blockLength ws - 2 ∧
  ∀ k, k < n → ((descriptorAt ws (0x3E + 4 * k)).last = true ↔ k + 1 = n)

/-- The seven tests of R183, each by the reason that its failure gives. -/
def BlockPasses (ws : List Word) : BadBlock → Prop
  | .marker => ws.getD 0 0 = 0x4C8A
  | .version => ws.getD 1 0 = 1
  | .length => blockLength ws % 2 = 0 ∧ 64 ≤ blockLength ws ∧ blockLength ws ≤ 512
  | .check => ws.getD (blockLength ws / 2 - 1) 0 = check16 ((ws.take (blockLength ws / 2 - 1)).flatMap wordBytes)
  | .range => RangesPass (blockSettings ws) (blockTable ws)
  | .windows => ∃ n, ListEnds ws n ∧ DescriptorsPass (descriptors ws n)
  | .warning => ∀ n : Fin 4, (blockTimers ws).amber + (blockTimers ws).redWarn + (blockTimers ws).entryLimit +
      (blockTimers ws).clearSettle + (blockTimers ws).exitLimit ≤ ((blockTable ws)[n]).warning

/-- The values of a valid block: its settings, its warning table, and its windows sorted by base (R181, R184). -/
def ValuesOf (ws : List Word) (v : BlockValues) : Prop :=
  v.settings = blockSettings ws ∧ v.table = blockTable ws ∧
  ∃ n, ListEnds ws n ∧ v.windows.Perm ((descriptors ws n).filterMap Descriptor.toWindow) ∧
    v.windows.Pairwise fun x y => x.base ≤ y.base

/-! ## What the statements speak of -/

/-- The fault report of a section's STARTUP arising at crossing time 0. -/
def startupReport (p : Point) : Entry :=
  ⟨.fault p .faulty 1 (some 0) (some 0) (some (.section_ .startup)), .urgent, none, false⟩

/-- The outcome record that a transaction ending at `l` offers (R6). -/
def offerOf (l : HeadLine) (x : TxnOutcome) (g : Option GoodReply) : OutcomeRec :=
  ⟨l.head, l.kind, x, (l.recs[l.head]).state, (l.recs[l.head]).heldAB, (l.recs[l.head]).heldBA, g⟩

/-- What a GOOD reply of the characters `cs` gives (R3, R6, R15, R194). -/
def replyOf (l : HeadLine) (cs : List Byte) (now : Time) (g : GoodReply) : Prop :=
  g.ab = cs.getD 1 0 ∧ g.ba = cs.getD 2 0 ∧ g.transit = cs.getD 4 0 ++ cs.getD 3 0 ∧
  g.sensorFault = (cs.getD 5 0).getLsbD 0 ∧ g.halfNow = (cs.getD 5 0).getLsbD 1 ∧
  g.halfBefore = (l.kind == .read && (l.recs[l.head]).lastHalf) ∧ g.time = now

/-- The Section Counter can take: the part runs, an outcome is offered and the hand-over is empty (R18). -/
def TakeReady (s : State) (o : OutcomeRec) : Prop :=
  s.running = true ∧ s.line.offered = some o ∧ s.secs.movement = none

/-- A section is DISTURBED with a reason, holds no wheels of any record, demands closure, and presents its condition, which
makes the mode FAILED outside TEST. -/
structure DisturbedIn (t : State) (i : Sec) (why : Reason) : Prop where
  entry : t.secs.table[i] = ⟨.disturbed, 0, false, some why⟩
  wheels : ∀ r ∈ t.trk.liveRecs, r.wheelsIn i = 0
  demand : (t.seq.demands.get (.section_ i)).isSome = true
  condition : t.flt.present[secPoint i] = true
  mode : t.seq.state ≠ .test → t.flt.mode = .failed

/-- The state of a counting section after its count becomes `n` (R24, R30). -/
def CountedTo (x y : SecRec) (n : Nat) : Prop :=
  y.count = n ∧ y.reason = x.reason ∧
  (x.state = .clear ∨ x.state = .occupied → y.state = (if n = 0 then .clear else .occupied) ∧ y.swept = x.swept) ∧
  (x.state = .restoring →
    (0 < n → y.state = .restoring ∧ y.swept = true) ∧
    (n = 0 → x.swept = true → y.state = .clear ∧ y.swept = false) ∧
    (n = 0 → x.swept = false → y.state = .restoring ∧ y.swept = false))

/-- The entry is the train report of a record, and its kinds include OVERDUE (R49, R55). -/
def ReportsOverdue (e : Entry) (i : Slot) (r : TrainRec) : Prop := ReportsKind e i r (·.overdue)

/-- A crossing state and its road outputs, as R75's table gives them (booms apart). -/
def RoadShows (t : State) (x : Crossing) (amber red : LampCmd) (audible : Bool) : Prop :=
  t.seq.state = x ∧ t.seq.lamps[0] = amber ∧ t.seq.lamps[3] = amber ∧
  (∀ i ∈ reds, t.seq.lamps[i] = red) ∧ t.seq.audible[0] = audible ∧ t.seq.audible[1] = audible

/-- CLEARANCE ended through EXIT_LOWER to CLOSED in one event, with both exit booms DOWN already (R83, R85, R86): the settle
timer, the clearance limit and the exit travel limit do not run, every target is LOWER, FP27's condition is gone, the min
closed timer starts, and both changes of state are staged. -/
structure PassedExitLower (s t : State) : Prop where
  road : RoadShows t .closed .dark .flash false
  settle : t.seq.settleDue = none
  limit : t.seq.clearLimitDue = none
  exit : t.seq.exitDue = none
  minClosed : t.seq.minClosedDue =
    if s.settings.timers.minClosed = 0 then none else some (t.now + s.settings.timers.minClosed)
  targets : ∀ b : Boom, (t.seq.drives[b]).target = .lower
  point : t.flt.present[fpObstructed] = false
  entry : PointFollows s t fpObstructed none
  events : s.link.lost = false → Staged s t [.crossingState .clearance .exitLower t.now false,
    .crossingState .exitLower .closed t.now t.seq.proven]

/-- The first entry in join order among those of the highest class present (R125). -/
def IsChosen (q : List Entry) (e : Entry) : Prop :=
  ∃ before after, q = before ++ e :: after ∧ (∀ x ∈ q, e.cls.rank ≤ x.cls.rank) ∧ ∀ x ∈ before, e.cls.rank < x.cls.rank

/-- The words of a load so far are all it reads: the header failed, or the block is read to the length it gives. -/
def WholeLoad (ws : List Word) : Prop :=
  3 ≤ ws.length ∧ (headerFault ws ≠ none ∨ blockLength ws / 2 ≤ ws.length)

/-! ## Conditions that steps keep -/

/-- Crossing time lies below the end of a run (R188). -/
def ClockOk (s : State) : Prop := s.now < Config.runEnd

/-- The staging queue holds at most 32 events, and the missed count at most 65,535 (R175). -/
def StagingOk (s : State) : Prop := s.bus.ring.staging.length ≤ 32 ∧ s.bus.ring.missed ≤ 65535

/-- The request queue holds at most four requests, at most one for a slot (R63). -/
def RequestsOk (s : State) : Prop :=
  s.pred.queue.length ≤ 4 ∧ (s.pred.queue.map (·.slot)).Nodup

/-- The window table is empty or satisfies the rules on windows (R157). -/
def WindowsOk (s : State) : Prop := s.bus.windows = [] ∨ windowsLegal s.bus.windows = true

/-- The settings and the warning table lie in their ranges, and every warning time suits the timers in force (R58, R181). -/
def SettingsOk (s : State) : Prop :=
  s.settings.inRange = true ∧
  ∀ i : Fin 4, (s.pred.table[i]).inRange = true ∧ s.settings.timers.sequenceMinimum ≤ (s.pred.table[i]).warning

/-- The crossing is OPEN or RAISING only while the demand set is empty (R78, R91). -/
def OpenUndemanded (s : State) : Prop :=
  s.seq.state = .opened ∨ s.seq.state = .raising → s.seq.demands.isEmpty = true

/-- A drive's reversal pause runs exactly while its output is HOLD (R92). -/
def PausesHeld (s : State) : Prop :=
  ∀ b : Boom, ((s.seq.drives[b]).pauseDue).isSome = true ↔ (s.seq.drives[b]).output = .hold

/-- What is derived agrees with what it is derived from: closure proven (R95), the mode (R119), each driver's indicator
(R96), and proceed shown on the records that an indicator is lit for (R97). -/
structure Settled (s : State) : Prop where
  proven : s.seq.proven = closureHolds s.seq s.prv
  mode : s.flt.mode = modeOf s.seq s.flt
  indicators : ∀ k : Track, s.seq.lamps[indicatorOf k] = if indicatorLit s.seq s.flt s.trk k then .lit else .dark
  proceed : ∀ (i : Slot) (r : TrainRec), s.trk.recs[i] = some r →
    r.proceedShown = (indicatorLit s.seq s.flt s.trk r.track && r.awaitsProceed r.track)

/-- While a section is counting, each of its bounding heads is ACTIVE or MISSING (R22). -/
def HeadsServe (s : State) : Prop :=
  ∀ i : Sec, (s.secs.table[i]).state ≠ .disturbed → ∀ h ∈ boundingHeads i,
    (s.line.recs[h]).state = .active ∨ (s.line.recs[h]).state = .missing

/-- A head's fault condition is present exactly while the head is FAILED (R16). -/
def HeadsReported (s : State) : Prop :=
  ∀ h : Head, s.flt.present[headPoint h] = ((s.line.recs[h]).state == .failed)

/-- The wheels that all records hold in a section. -/
def Tracker.wheelsIn (t : Tracker) (i : Sec) : Nat := (t.liveRecs.map fun r => r.wheelsIn i).sum

/-- Each track's list holds exactly the slots of that track's records, each once (R37). -/
def ListsOk (t : Tracker) : Prop :=
  ∀ k : Track, (t.order k).Nodup ∧ ∀ i : Slot, i ∈ t.order k ↔ ∃ r, t.recs[i] = some r ∧ r.track = k

/-- The section table and the approach list agree: the count of a counting section is the sum of the wheels that records
hold in it, and no record holds wheels in a DISTURBED section (R24); CLEAR and OCCUPIED follow the count. -/
structure CountsAgree (s : State) : Prop where
  lists : ListsOk s.trk
  held : ∀ r ∈ s.trk.liveRecs, 0 < r.total
  counts : ∀ i : Sec, (s.secs.table[i]).count = s.trk.wheelsIn i
  disturbed : ∀ i : Sec, (s.secs.table[i]).state = .disturbed → (s.secs.table[i]).count = 0
  clear : ∀ i : Sec, (s.secs.table[i]).state = .clear → (s.secs.table[i]).count = 0
  occupied : ∀ i : Sec, (s.secs.table[i]).state = .occupied → 0 < (s.secs.table[i]).count

/-- The report queue fits its allotments: one entry for a keyed subject and none for FP30, one crossing-state report, at
most four HOST entries with room for the record being fetched, and at most one entry in air (R123, R125, R130). -/
structure ReportsFit (s : State) : Prop where
  keyed : (s.queue.filterMap fun e => e.content.key.map fun k => (e.content.origin, k)).Nodup
  link : ∀ e ∈ s.queue, ¬ (e.content.origin = .fault ∧ e.content.key = some 30)
  crossing : (s.queue.filter fun e => e.content.origin == .crossing).length ≤ 1
  hosts : hostEntries s.queue ≤ 4
  fetching : s.bus.outbox.state = .fetching → hostEntries s.queue < 4
  air : (s.queue.filter fun e => e.sent.isSome).length ≤ 1

/-- While the part is in reset or its first load is in flight, the crossing is STARTING, no window exists, no access is more
than held, the snapshot is invalid, every argument shadow is 0 and LOCAL_HOLD does not stand (R76, R157, R165, R169, R172,
R182, R188). -/
def StartingUntouched (s : State) : Prop :=
  s.running = false ∨ (∃ l, s.ldr.load = some l ∧ l.kind = .first) →
    s.seq.state = .starting ∧ s.bus.windows = [] ∧ (∀ u, s.bus.up = some u → u.phase = .held) ∧
    s.img.snapshot = none ∧ (∀ i : Slot, (s.cmd[i]).argA = 0 ∧ (s.cmd[i]).argB = 0) ∧ s.seq.demands.localHold = none

/-- A drive's output does not pass between RAISE and LOWER without HOLD (R92). -/
def NoDirectReversal (s t : State) : Prop :=
  ∀ b : Boom,
    ((s.seq.drives[b]).output = .raise → (t.seq.drives[b]).output ≠ .lower) ∧
    ((s.seq.drives[b]).output = .lower → (t.seq.drives[b]).output ≠ .raise)

end Sys2Proof.Machine
end

