-- ==== Sys2Proof/WellFormed.lean ====
section
/-! DEFINITION. The commands the world can bring: bounds on operands that the operand types do not already hold. -/

namespace Sys2Proof

/-- A signaller frame kind, 01h to 0Ch (12_formats.md, Signaller link frames). -/
def isSignallerKind (kind : Byte) : Bool := 1 ≤ kind.toNat && kind.toNat ≤ 12

/-- A frame body holds at most 60 characters (R135). -/
def bodyFits (body : List Byte) : Bool := body.length ≤ Config.bodyLimit

/-- The operand checks, command by command: frame bodies of at most 60 characters (R135), a refused kind that is
no signaller kind (R138), a byte write that carries one byte (R155), an outbox record of 32 bytes (R128), and a break that
began within the run (R188). Every other operand is bounded by its type. -/
def Instr.wf : Instr → Bool
  | .poll b | .signallerAckFault b | .ackAll b | .restoreSection b | .signallerHoldClosed b
  | .signallerReleaseHold b | .releaseLocal b | .waiveClearance b | .permitMaint b | .withdrawPermit b
  | .setWarning b | .status b => bodyFits b
  | .frameRefusedKind k b => !isSignallerKind k && bodyFits b
  | .hostWrite _ word data => word || data.toNat < 256
  | .outboxFetchComplete r => r.length == 32
  | .linkBreak start => start < Config.runEnd
  | _ => true

end Sys2Proof
end

