-- ==== Sys2Proof/Certificates/Slice0/Obligations.lean ====
section
/-! DEFINITION. The statements for the provers: what the commands and the part do, by the numbered rules of spec/. -/

section Statements

open Sys2Proof Sys2Proof.Machine

/-! ## The queue, time and the resets -/

/-- The step of a state with a command at the front of its queue is that command's `exec` with the queue's rest. -/
def Obligations.StepRunsFrontCommand : Prop :=
  ∀ (c : Instr) (rest : List Instr) (s : State), s.pending = c :: rest → step s = exec c { s with pending := rest }

/-- On an empty queue a running part's crossing time rises by one, and the run ends by part reset at FFFFFF00h; a part
in part reset idles. The tick is the model's choice (log 1). -/
def Obligations.EmptyQueueTicks : Prop :=
  ∀ s : State, s.pending = [] →
    (s.running = false → step s = .next s) ∧
    (s.running = true → s.now + 1 < Config.runEnd → step s = .next { s with now := s.now + 1 }) ∧
    (s.running = true → ¬ s.now + 1 < Config.runEnd → ∃ t, step s = .next t ∧ InReset s t)

/-- Every command answers a next state, and changes nothing outside the parts listed for it. The model's choices in
it: log 28. -/
def Obligations.CommandsKeepOtherParts : Prop :=
  ∀ (c : Instr) (s : State), ∃ t, exec c s = .next t ∧ SameOutside (touches c) s t

/-- PART_RESET in every state, and RUN_END_RESET of a running part, put every block in its part-reset state. In part
reset every command but PART_RESET_END changes nothing but the levels of the pins (log 4, log 5). -/
def Obligations.PartResetPutsBlocksBackAndHoldsThem : Prop :=
  (∀ s : State,
      (∃ t, exec .partReset s = .next t ∧ InReset s t) ∧
      (s.running = true → ∃ t, exec .runEndReset s = .next t ∧ InReset s t) ∧
      (s.running = false → exec .runEndReset s = .next s)) ∧
  (∀ (c : Instr) (s t : State), s.running = false → c ≠ .partReset → c ≠ .partResetEnd → exec c s = .next t →
      SameOutside [.prv] s t ∧ t.prv.masks = s.prv.masks ∧ t.prv.booms = s.prv.booms ∧
      (∀ i : Fin 16, (t.prv.contacts[i]).settled = (s.prv.contacts[i]).settled ∧
        (t.prv.contacts[i]).due = (s.prv.contacts[i]).due) ∧
      (∀ i : Lamp, (t.prv.lamps[i]).checkDue = (s.prv.lamps[i]).checkDue ∧
        (t.prv.lamps[i]).expired = (s.prv.lamps[i]).expired ∧ (t.prv.lamps[i]).fault = (s.prv.lamps[i]).fault))

/-- The values that the rules give the blocks in part reset: R8, R18, R23, R36, R57, R63, R64, R71, R72, R75, R92,
R94, R96, R104, R112, R119, R122, R128, R135, R139, R140, R151, R157, R164, R169, R172, R175, R176, R181. The model's
choices in it: log 5, log 29. -/
def Obligations.PartResetValues : Prop :=
  (∀ h : Head, State.reset.line.recs[h] = ⟨.unknown, 0, 0, 0, 0, none, false, false⟩) ∧
  State.reset.line.offered = none ∧ State.reset.secs.movement = none ∧
  (∀ i : Sec, State.reset.secs.table[i] = ⟨.disturbed, 0, false, some .startup⟩) ∧
  (∀ i : Slot, State.reset.trk.recs[i] = none ∧ State.reset.trk.gens[i] = 0) ∧
  (∀ i : Fin 4, State.reset.pred.table[i] = ⟨200, 32000, 60000⟩) ∧
  State.reset.pred.queue = [] ∧ State.reset.pred.unit = none ∧
  State.reset.seq.state = .starting ∧ State.reset.seq.demands.isEmpty = true ∧
  (∀ b : Boom, State.reset.seq.drives[b] = ⟨.lower, .lower, none⟩ ∧ State.reset.prv.position b = .travel ∧
    State.reset.prv.intact b = true) ∧
  (∀ i : Lamp, State.reset.seq.lamps[i] = .dark) ∧ State.reset.seq.flasher = none ∧ State.reset.seq.permission = false ∧
  State.reset.prv.detector = .obstructed ∧ State.reset.prv.mainsLost = false ∧ State.reset.prv.batteryLow = false ∧
  (∀ p : Point, State.reset.flt.table[p] = ⟨.healthy, 0, none, none, none, false⟩) ∧ State.reset.flt.mode = .normal ∧
  State.reset.queue = [] ∧
  State.reset.link.rx = none ∧ State.reset.link.toggle = false ∧ State.reset.link.lost = false ∧
  State.reset.link.lastWhole = none ∧ State.reset.link.sending = none ∧ State.reset.link.buffered = none ∧
  State.reset.bus.windows = [] ∧ State.reset.bus.port = none ∧ State.reset.bus.up = none ∧
  State.reset.bus.ring.staging = [] ∧ State.reset.bus.ring.missed = 0 ∧ State.reset.bus.ring.state = .none ∧
  State.reset.bus.ring.producer = 0 ∧ State.reset.bus.ring.consumer = 0 ∧
  State.reset.bus.outbox.state = .idle ∧ State.reset.bus.outbox.consumer = 0 ∧ State.reset.bus.outbox.shadow = 0 ∧
  (∀ i : Slot, State.reset.cmd[i] = ⟨0, 0, .none, 0, 0, none⟩) ∧
  State.reset.img.serial = 0 ∧ State.reset.img.snapshot = none ∧
  State.reset.settings = ⟨1, 3, 10000, 400, 4000, 120000, 15000, ⟨3000, 5000, 8000, 8000, 10000, 2000, 20000, 5000, 1000⟩⟩

/-- PART_RESET_END, the first event of a run: STARTUP first, the first load, H1's slot, the six SECTION demands and
conditions with their urgent reports, the mode FAILED, and the masks, check timers, settle timers and link timer. The
model's choices in it: log 4, log 5, log 10, log 12. -/
def Obligations.RunBegins : Prop :=
  ∀ s : State, InReset s s → ∃ t, exec .partResetEnd s = .next t ∧
    t.running = true ∧ t.now = 0 ∧ t.pending = s.pending ∧
    t.ldr.load = some ⟨.first, [], false⟩ ∧ t.bus.port = some ⟨.loader, ⟨0xFFE00, false, 2, []⟩⟩ ∧
    t.line.head = 0 ∧ t.line.phase = .poll ∧ t.line.kind = .read ∧ t.line.slotStart = 0 ∧
    t.line.pollFrame = [1, 0, 0xFF] ∧
    t.seq.state = .starting ∧
    (∀ i : Sec, t.seq.demands.get (.section_ i) = some 0) ∧
    (∀ k : DemandKey, (∀ i : Sec, k ≠ .section_ i) → t.seq.demands.get k = none) ∧
    t.flt.mode = .failed ∧
    (∀ i : Sec, t.flt.table[secPoint i] = ⟨.faulty, 1, some 0, some 0, some (.section_ .startup), false⟩) ∧
    t.queue = ([20, 21, 22, 23, 24, 25] : List Point).map startupReport ++
      [⟨.crossing .starting .failed false 6 0, .urgent, none, false⟩] ∧
    (∀ b : Boom, t.prv.masks[b] = some 100) ∧
    (∀ i : Fin 16, (t.prv.contacts[i]).due =
      if 12 ≤ i.val ∧ (s.prv.contacts[i]).raw ≠ (s.prv.contacts[i]).settled then some 100 else none) ∧
    (∀ i : Lamp, (t.prv.lamps[i]).checkDue = some 200) ∧
    t.link.timerDue = some 10000 ∧
    t.bus.ring.staging =
      [⟨0, .startup⟩] ++ allSecs.map (fun i => ⟨0, .demandOn (.section_ i) 0⟩) ++
      allSecs.map (fun i => ⟨0, .faultRaised (secPoint i) .healthy .faulty 1 (some (.section_ .startup))⟩) ++
      [⟨0, .mode .normal .failed⟩]

/-- HOST_RESET is staged, and the upstream access is abandoned without an answer, the outcome records are cleared and
the argument shadows kept, the snapshot goes and its serial stays, the producer shadow follows the consumer index, and
maintenance ends. The demand set, the window table, the records' places, generations and restart requests stay, and
while the port is busy the access on it and the claims that wait stay. Outside TEST, in a part whose derived state is
settled, the records, the fault table and the report queue stay whole. The model's choices in it: log 29, and log 24 (a
fetch whose claim still waits counts as in flight, so that the shadow becomes the consumer index plus one). -/
def Obligations.HostResetClearsHostState : Prop :=
  ∀ s : State, s.running = true → ∃ t, exec .hostReset s = .next t ∧
    t.bus.up = none ∧ t.bus.answer = none ∧
    (∀ i : Slot, t.cmd[i] = ⟨(s.cmd[i]).argA, (s.cmd[i]).argB, .none, 0, 0, none⟩) ∧
    t.img.snapshot = none ∧ t.img.serial = s.img.serial ∧
    t.bus.windows = s.bus.windows ∧ t.bus.ring.consumer = s.bus.ring.consumer ∧
    t.bus.outbox.consumer = s.bus.outbox.consumer ∧
    (windowOf s.bus.windows .outbox = none → t.bus.outbox.shadow = s.bus.outbox.shadow) ∧
    (∀ w, windowOf s.bus.windows .outbox = some w → t.bus.outbox.shadow =
      if s.bus.outbox.state = .fetching then (s.bus.outbox.consumer + 1) % outboxCapacity w else s.bus.outbox.consumer) ∧
    t.seq.demands = s.seq.demands ∧ t.seq.permission = s.seq.permission ∧
    (s.seq.state = .test → t.seq.state ≠ .test ∧ t.seq.test = none) ∧
    (s.seq.state ≠ .test → t.seq.state = s.seq.state ∧ t.seq.drives = s.seq.drives) ∧
    Staged s t [.hostReset] ∧
    t.trk.gens = s.trk.gens ∧ (∀ k : Track, t.trk.order k = s.trk.order k) ∧
    (∀ j : Slot, (t.trk.recs[j]).map (·.restartReq) = (s.trk.recs[j]).map (·.restartReq)) ∧
    (s.seq.state ≠ .test → Settled s → t.trk = s.trk ∧ t.flt = s.flt ∧ t.queue = s.queue) ∧
    (s.bus.port.isSome = true → t.bus.port = s.bus.port ∧ t.bus.loaderClaim = s.bus.loaderClaim ∧
      t.bus.outboxClaim = s.bus.outboxClaim ∧ (s.bus.ring.state ≠ .idle → t.bus.ringClaim = s.bus.ringClaim))

/-! ## The head line -/

/-- SLOT_START: with the line idle and the last outcome taken, the next head of the cycle is polled 12 ms after the
slot before or at once, as a CLEAR_HALF exactly when its pending flag is set. The reply window: it opens at the end of
the poll; a break present then, or recognised while it is open, ends the transaction as BROKEN; at its close the
outcome is SILENT with no character received and GARBLED otherwise. The head records stay as they are until the take.
The model's choices in it: log 2, log 36. -/
def Obligations.SlotsPollAndWindowsEndTransactions : Prop :=
  (∀ s : State, s.running = true → s.line.phase = .idle → s.line.offered = none → s.line.slotStart + 12 < Config.runEnd →
      ∃ t, exec .slotStart s = .next t ∧ SameOutside [.now, .line] s t ∧
        t.now = max s.now (s.line.slotStart + 12) ∧ t.line.slotStart = t.now ∧ t.line.phase = .poll ∧
        t.line.head = s.line.head + 1 ∧ t.line.recs = s.line.recs ∧ t.line.offered = none ∧
        (t.line.kind = .clearHalf ↔ (s.line.recs[s.line.head + 1]).clearPending = true) ∧
        t.line.pollFrame.length = 3 ∧ t.line.pollFrame.getD 0 0 = byte (t.line.head.val + 1) ∧
        t.line.pollFrame.getD 1 0 = (if t.line.kind = .clearHalf then 1 else 0) ∧ t.line.pollFrame.foldl (· + ·) 0 = 0) ∧
  (∀ s : State, s.running = true → s.line.slotStart + 10 < Config.runEnd →
      (∀ brk : Bool, s.line.phase = .poll → ∃ t, exec (.replyWindowOpen brk) s = .next t ∧
        t.now = max s.now (s.line.slotStart + 2) ∧ t.line.recs = s.line.recs ∧
        (brk = false → t.line.phase = .window ∧ t.line.offered = s.line.offered) ∧
        (brk = true → t.line.phase = .idle ∧ t.line.offered = some (offerOf s.line .broken none))) ∧
      (s.line.phase = .window →
        (∃ t, exec .replyWindowClose s = .next t ∧ t.now = max s.now (s.line.slotStart + 10) ∧
          t.line.phase = .idle ∧ t.line.recs = s.line.recs ∧
          t.line.offered = some (offerOf s.line (if s.line.chars = [] then .silent else .garbled) none)) ∧
        (∃ t, exec .headLineBreak s = .next t ∧ t.now = s.now ∧ t.line.phase = .idle ∧ t.line.recs = s.line.recs ∧
          t.line.offered = some (offerOf s.line .broken none))) ∧
      (s.line.phase ≠ .window → exec .headLineBreak s = .next s ∧ exec .replyWindowClose s = .next s))

/-- A reply character: outside the window it is discarded; in the window it counts toward the seven; the seventh
decides the outcome at once, as GARBLED by a bad character or a bad check, then WRONG_HEAD by the head number, then
GOOD. HEAD_REPLY_CHARACTER and HEAD_REPLY_COMPLETE do the same work (log 6). -/
def Obligations.ReplyCharactersDecideOutcome : Prop :=
  ∀ (s : State) (v : Byte) (framing noise : Bool) (c : Instr), s.running = true →
    c = .headReplyComplete v framing noise ∨ c = .headReplyCharacter v framing noise →
    (s.line.phase ≠ .window → exec c s = .next s) ∧
    (s.line.phase = .window → s.line.chars.length + 1 < 7 → ∃ t, exec c s = .next t ∧ SameOutside [.line] s t ∧
      t.line.chars = s.line.chars ++ [v] ∧ t.line.charBad = (s.line.charBad || framing || noise) ∧
      t.line.phase = .window ∧ t.line.offered = s.line.offered ∧ t.line.recs = s.line.recs) ∧
    (s.line.phase = .window → s.line.chars.length + 1 = 7 → ∃ t, exec c s = .next t ∧ SameOutside [.line] s t ∧
      t.line.phase = .idle ∧ t.line.recs = s.line.recs ∧
      let cs := s.line.chars ++ [v]
      if s.line.charBad ∨ framing ∨ noise ∨ cs.foldl (· + ·) 0 ≠ 0 then t.line.offered = some (offerOf s.line .garbled none)
      else if cs.getD 0 0 ≠ byte (s.line.head.val + 1) then t.line.offered = some (offerOf s.line .wrongHead none)
      else ∃ g, t.line.offered = some (offerOf s.line .good (some g)) ∧ replyOf s.line cs s.now g)

/-! ## The take of an outcome -/

/-- The take of a non-GOOD outcome, by the head's state: the counts and the state that follow, with the held counts,
the last-reply time, the last HALF and the CLEAR_HALF pending flag kept. -/
def Obligations.TakeOfMiss : Prop :=
  ∀ (s : State) (o : OutcomeRec), TakeReady s o → o.reply = none →
    ∃ t, exec .outcomeTake s = .next t ∧ t.line.offered = none ∧
      (∀ h : Head, h ≠ o.head → t.line.recs[h] = s.line.recs[h]) ∧
      let r := s.line.recs[o.head]
      let r' := t.line.recs[o.head]
      r'.heldAB = r.heldAB ∧ r'.heldBA = r.heldBA ∧ r'.lastReply = r.lastReply ∧ r'.lastHalf = r.lastHalf ∧
      r'.clearPending = r.clearPending ∧
      (r.state = .unknown ∨ r.state = .missing → r.failCount + 1 < 3 →
        r'.state = r.state ∧ r'.failCount = r.failCount + 1) ∧
      (r.state = .unknown ∨ r.state = .missing → ¬ r.failCount + 1 < 3 →
        r'.state = .failed ∧ r'.failCount = 3 ∧ r'.goodCount = 0) ∧
      (r.state = .active → r'.state = .missing ∧ r'.failCount = 1) ∧
      (r.state = .failed → r'.state = .failed ∧ r'.goodCount = 0) ∧
      (r.state = .settling → r'.state = .failed ∧ r'.failCount = 3 ∧ r'.goodCount = 0)

/-- The take of a GOOD outcome that shows SENSOR_FAULT: the head is FAILED from any state, the held counts stay, the
last-reply time and the last HALF are the reply's, and no verdict is given: no movement is formed, and the bounding
sections of a head that enters FAILED are DISTURBED as by any other failure of a head. -/
def Obligations.SensorFaultFailsHead : Prop :=
  ∀ (s : State) (o : OutcomeRec) (g : GoodReply), TakeReady s o → o.reply = some g → g.sensorFault = true →
    ∃ t, exec .outcomeTake s = .next t ∧
      let r := s.line.recs[o.head]
      let r' := t.line.recs[o.head]
      r'.state = .failed ∧ r'.goodCount = 0 ∧ (r.state ≠ .failed → r'.failCount = 3) ∧
      r'.heldAB = r.heldAB ∧ r'.heldBA = r.heldBA ∧
      r'.lastReply = some g.time ∧ r'.lastHalf = g.halfNow ∧ t.secs.movement = none ∧
      (∀ i : Sec, t.secs.table[i] = if r.state ≠ .failed ∧ i ∈ boundingSecs o.head
        then ⟨.disturbed, 0, false, some .headFailed⟩ else s.secs.table[i])

/-- The take of a GOOD outcome without SENSOR_FAULT, from a head that is in the state its outcome record names: the
baseline, the plausible and the implausible reply, and the proving of a FAILED head; and the fields kept from every
GOOD reply. -/
def Obligations.TakeOfGoodReply : Prop :=
  ∀ (s : State) (o : OutcomeRec) (g : GoodReply), TakeReady s o → o.reply = some g → g.sensorFault = false →
    o.stateBefore = (s.line.recs[o.head]).state →
    ∃ t, exec .outcomeTake s = .next t ∧ t.line.offered = none ∧
      (∀ h : Head, h ≠ o.head → t.line.recs[h] = s.line.recs[h]) ∧
      let r := s.line.recs[o.head]
      let r' := t.line.recs[o.head]
      let stored := r'.state = .active ∧ r'.heldAB = g.ab ∧ r'.heldBA = g.ba ∧ r'.failCount = 0 ∧ r'.goodCount = 0
      let heldKept := r'.heldAB = r.heldAB ∧ r'.heldBA = r.heldBA
      let plausible := (g.ab - o.heldAB).toNat ≤ 64 ∧ (g.ba - o.heldBA).toNat ≤ 64
      r'.lastReply = some g.time ∧ r'.lastHalf = g.halfNow ∧
      r'.clearPending = (r.clearPending && o.kind != .clearHalf) ∧
      (r.state = .unknown ∨ r.state = .settling → stored) ∧
      (r.state = .active ∨ r.state = .missing → plausible → stored) ∧
      (r.state = .active ∨ r.state = .missing → ¬ plausible →
        r'.state = .failed ∧ r'.failCount = 3 ∧ r'.goodCount = 0 ∧ heldKept) ∧
      (r.state = .failed → r.goodCount + 1 < 5 →
        r'.state = .failed ∧ r'.goodCount = r.goodCount + 1 ∧ r'.failCount = r.failCount ∧ heldKept) ∧
      (r.state = .failed → ¬ r.goodCount + 1 < 5 →
        r'.state = .settling ∧ r'.goodCount = 5 ∧ r'.failCount = 0 ∧ heldKept)

/-- A take that makes a head enter FAILED, and a plausible reply with a rising edge of HALF, disturb every bounding
section of the head and no other, and form no movement. From a plausible reply without a rising edge of HALF the two
deltas are netted into at most one movement. At every change of head state HEAD_STATE is staged with the head, the
states and the cause, and the head's fault condition arises when it enters FAILED and goes when it leaves it. The head's
and the sections' fault entries, events and reports follow their conditions, each event staged unless the staging queue
is full. The model's choices in it: log 44 (HEAD_FAILED for a SETTLING head that falls back). -/
def Obligations.TakeDisturbsSectionsOrFormsMovement : Prop :=
  (∀ (s : State) (o : OutcomeRec), TakeReady s o → o.stateBefore = (s.line.recs[o.head]).state →
      ∃ t, exec .outcomeTake s = .next t ∧
        let entersFailed := (s.line.recs[o.head]).state ≠ .failed ∧ (t.line.recs[o.head]).state = .failed
        let implausible := ∃ g, o.reply = some g ∧ g.sensorFault = false ∧
          (o.stateBefore = .active ∨ o.stateBefore = .missing) ∧
          ¬ ((g.ab - o.heldAB).toNat ≤ 64 ∧ (g.ba - o.heldBA).toNat ≤ 64)
        let edge := ∃ g, o.reply = some g ∧ g.sensorFault = false ∧
          (o.stateBefore = .active ∨ o.stateBefore = .missing) ∧
          ((g.ab - o.heldAB).toNat ≤ 64 ∧ (g.ba - o.heldBA).toNat ≤ 64) ∧ g.halfNow = true ∧ g.halfBefore = false
        (entersFailed → t.secs.movement = none ∧ ∀ i ∈ boundingSecs o.head,
          (implausible → DisturbedIn t i .implausible) ∧ (¬ implausible → DisturbedIn t i .headFailed)) ∧
        (edge → t.secs.movement = none ∧ ∀ i ∈ boundingSecs o.head, DisturbedIn t i .halfWheel) ∧
        (∀ i : Sec, i ∉ boundingSecs o.head ∨ (¬ entersFailed ∧ ¬ edge) → t.secs.table[i] = s.secs.table[i])) ∧
  (∀ (s : State) (o : OutcomeRec) (g : GoodReply), TakeReady s o → o.reply = some g → g.sensorFault = false →
      o.stateBefore = (s.line.recs[o.head]).state → o.stateBefore = .active ∨ o.stateBefore = .missing →
      (g.ab - o.heldAB).toNat ≤ 64 → (g.ba - o.heldBA).toNat ≤ 64 → ¬ (g.halfNow = true ∧ g.halfBefore = false) →
      ∃ t, exec .outcomeTake s = .next t ∧ t.secs.table = s.secs.table ∧
        let a := (g.ab - o.heldAB).toNat
        let b := (g.ba - o.heldBA).toNat
        t.secs.movement =
          if b < a then some ⟨o.head, .ab, a - b, g.time, g.transit⟩
          else if a < b then some ⟨o.head, .ba, b - a, g.time, g.transit⟩
          else none) ∧
  (∀ (s : State) (o : OutcomeRec), TakeReady s o →
      ∃ t, exec .outcomeTake s = .next t ∧
        let before := (s.line.recs[o.head]).state
        let now := (t.line.recs[o.head]).state
        (now ≠ before → ∀ c, CausedBy o c → Staged s t [.headState o.head before now c]) ∧
        (before ≠ .failed → now = .failed → t.flt.present[headPoint o.head] = true) ∧
        (before = .failed → now ≠ .failed → t.flt.present[headPoint o.head] = false) ∧
        ((before = .failed ↔ now = .failed) → t.flt.present[headPoint o.head] = s.flt.present[headPoint o.head]) ∧
        (∀ c, CausedBy o c → PointFollows s t (headPoint o.head) (some (.head c))) ∧
        (∀ i : Sec, PointFollows s t (secPoint i) ((t.secs.table[i]).reason.map .section_)) ∧
        ∀ h : Head, h ≠ o.head → t.flt.present[headPoint h] = s.flt.present[headPoint h])

/-! ## The hand-over -/

/-- A movement between two counting sections, the leaving one holding enough wheels and the entering one not passing
255: the counts fall and rise by its wheels, the other sections keep theirs, the hand-over is empty again, and an
island's demand follows its count. The wheels pass with the record nearest the head, when it holds enough: it takes the
heading and the status of R44, and at an island its demand stands, a STOPPED record without proceed shown is reported
OVERRUN and a record that finds the crossing not CLOSED with closure proven UNPROTECTED, each once and URGENT; no other
record gains a report. Out over an outer head the wheels leave that record, which is removed as PASSED on the far side
from its entry and as WITHDRAWN on its entry side when it holds none, and otherwise takes the status of R44. -/
def Obligations.HandOverMovesWheels : Prop :=
  (∀ (s : State) (m : Movement) (i j : Sec), s.running = true → s.secs.movement = some m →
    m.leaves = .sec i → m.enters = .sec j →
    (s.secs.table[i]).state ≠ .disturbed → (s.secs.table[j]).state ≠ .disturbed →
    0 < m.wheels → m.wheels ≤ (s.secs.table[i]).count → (s.secs.table[j]).count + m.wheels ≤ 255 →
    ∃ t, exec .handOver s = .next t ∧ t.secs.movement = none ∧ t.now = s.now ∧ t.line = s.line ∧
      CountedTo (s.secs.table[i]) (t.secs.table[i]) ((s.secs.table[i]).count - m.wheels) ∧
      CountedTo (s.secs.table[j]) (t.secs.table[j]) ((s.secs.table[j]).count + m.wheels) ∧
      (∀ k : Sec, k ≠ i → k ≠ j → t.secs.table[k] = s.secs.table[k]) ∧
      (isIsland i = true → (t.seq.demands.get (.section_ i)).isSome = decide (0 < (t.secs.table[i]).count)) ∧
      (isIsland j = true → (t.seq.demands.get (.section_ j)).isSome = true)) ∧
  (∀ (s : State) (m : Movement) (i j : Sec) (x : Slot) (r : TrainRec), s.running = true → s.secs.movement = some m →
    m.leaves = .sec i → m.enters = .sec j →
    (s.secs.table[i]).state ≠ .disturbed → (s.secs.table[j]).state ≠ .disturbed →
    0 < m.wheels → m.wheels ≤ (s.secs.table[i]).count → (s.secs.table[j]).count + m.wheels ≤ 255 →
    s.trk.recs[x] = some r → r.track = secTrack i → FirstGiver s i m.dir x → m.wheels ≤ r.wheelsIn i →
    ∃ t, exec .handOver s = .next t ∧ t.trk.gens = s.trk.gens ∧ (∀ y : Slot, y ≠ x → RecordUntouched s t y) ∧
      ∃ r', t.trk.recs[x] = some r' ∧ r'.gen = r.gen ∧ r'.track = r.track ∧ r'.entrySide = r.entrySide ∧
        (∀ k : Sec, r'.wheelsIn k =
          if k = i then r.wheelsIn i - m.wheels else if k = j then r.wheelsIn j + m.wheels else r.wheelsIn k) ∧
        r'.heading = m.dir ∧ StatusFollows r.status r' ∧
        (r'.status ≠ .stopped → r.status = .stopped → r'.restartReq = false) ∧
        (isIsland j = true →
          let overrun := r.status = .stopped ∧ r.proceedShown = false ∧ r.overrunRep = false
          let unprotected := ¬ (s.seq.state = .closed ∧ s.seq.proven = true) ∧ r.unprotRep = false
          (t.seq.demands.get (.record x)).isSome = true ∧
          (overrun → r'.overrunRep = true ∧ ∃ e ∈ t.queue, ReportsKind e x r (·.overrun) ∧ e.cls = .urgent) ∧
          (unprotected → r'.unprotRep = true ∧ ∃ e ∈ t.queue, ReportsKind e x r (·.unprotected) ∧ e.cls = .urgent) ∧
          (¬ overrun → r'.overrunRep = r.overrunRep) ∧ (¬ unprotected → r'.unprotRep = r.unprotRep)) ∧
        (isIsland j = false → r'.overrunRep = r.overrunRep ∧ r'.unprotRep = r.unprotRep) ∧
        (r'.overrunRep = r.overrunRep → r'.unprotRep = r.unprotRep → ∀ e ∈ t.queue, e.content.origin = .train → e ∈ s.queue) ∧
        (∀ e ∈ t.queue, e.content.origin = .train → e.content.key ≠ some x.val → e ∈ s.queue)) ∧
  (∀ (s : State) (m : Movement) (i : Sec) (x : Slot) (r : TrainRec), s.running = true → s.secs.movement = some m →
    m.leaves = .sec i → m.enters = .outside → (s.secs.table[i]).state ≠ .disturbed →
    0 < m.wheels → m.wheels ≤ (s.secs.table[i]).count →
    s.trk.recs[x] = some r → r.track = secTrack i → FirstGiver s i m.dir x → m.wheels ≤ r.wheelsIn i →
    ∃ t, exec .handOver s = .next t ∧ t.secs.movement = none ∧
      CountedTo (s.secs.table[i]) (t.secs.table[i]) ((s.secs.table[i]).count - m.wheels) ∧
      (∀ k : Sec, k ≠ i → t.secs.table[k] = s.secs.table[k]) ∧ (∀ y : Slot, y ≠ x → RecordUntouched s t y) ∧
      (∀ e ∈ t.queue, e.content.origin = .train → e ∈ s.queue) ∧
      (r.total = m.wheels → t.trk.recs[x] = none ∧ x ∉ t.trk.order r.track ∧ t.seq.demands.get (.record x) = none ∧
        StagedAmong s t 3 (if headSide m.head = r.entrySide then .trainWithdrawn x r.gen else .trainPassed x r.gen)) ∧
      (m.wheels < r.total → ∃ r', t.trk.recs[x] = some r' ∧ r'.gen = r.gen ∧ r'.heading = m.dir ∧
        (∀ k : Sec, r'.wheelsIn k = if k = i then r.wheelsIn i - m.wheels else r.wheelsIn k) ∧ StatusFollows r.status r'))

/-- Wheels from outside that join no record form one in the lowest available slot: its generation one higher, its
fields by R39, its sample taken by R61 to R63, and its RECORD demand standing exactly when its deadline is reached.
Wheels that meet R39's four conditions join the end record, which gains them, its last entry time and a sample, and no
record is formed. Wheels that emerge from a DISTURBED section, or from one that holds fewer than leave it, form a record
by R43: CROSSING in an island, where it is reported UNPROTECTED while the crossing is not CLOSED with closure proven,
and DEPARTING in an approach, and it makes no request. The model's choices in it: log 10. -/
def Obligations.StrikeInFormsRecord : Prop :=
  (∀ (s : State) (m : Movement) (i : Sec) (j : Slot), s.running = true → s.secs.movement = some m →
    m.leaves = .outside → m.enters = .sec i → (s.secs.table[i]).state ≠ .disturbed →
    0 < m.wheels → (s.secs.table[i]).count + m.wheels ≤ 255 →
    joining s (headTrack m.head) (headSide m.head) m.replyTime = none →
    slotAvailable s j = true → (∀ k : Slot, k < j → slotAvailable s k = false) →
    ∃ t, exec .handOver s = .next t ∧ t.secs.movement = none ∧
      (t.secs.table[i]).count = (s.secs.table[i]).count + m.wheels ∧
      ∃ r, t.trk.recs[j] = some r ∧ (∀ k : Slot, k ≠ j → t.trk.gens[k] = s.trk.gens[k]) ∧
      t.trk.gens[j] = s.trk.gens[j] + 1 ∧ r.gen = s.trk.gens[j] + 1 ∧
      r.track = headTrack m.head ∧ r.entrySide = headSide m.head ∧
      r.wEntry = m.wheels ∧ r.wIsland = 0 ∧ r.wExit = 0 ∧ r.heading = m.dir ∧ r.status = .approaching ∧
      r.strikeIn = some m.replyTime ∧ r.lastEntry = some m.replyTime ∧ r.approach = some m.replyTime ∧
      r.predicted = none ∧ r.warning = (s.pred.table[warnIndex r.track r.entrySide]).warning ∧
      r.margin = (s.pred.table[warnIndex r.track r.entrySide]).margin ∧
      r.restartReq = false ∧ r.proceedShown = false ∧ r.overdueRep = false ∧ r.overrunRep = false ∧ r.unprotRep = false ∧
      r.seq = (if m.transit = 0 then 0 else 1) ∧
      (m.transit = 0 → r.speedUnknown = true ∧ r.deadline = some ⟨m.replyTime, true⟩ ∧ t.pred = s.pred) ∧
      (m.transit ≠ 0 → s.pred.queue.length < 4 → (∀ q ∈ s.pred.queue, q.slot ≠ j) →
        r.speedUnknown = false ∧ r.deadline = none ∧
        let q : Request := ⟨j, r.gen, 1, (s.pred.table[warnIndex r.track r.entrySide]).distance, s.settings.spacing,
          m.transit.toNat, m.replyTime⟩
        (s.pred.unit.isSome = true → t.pred.queue = s.pred.queue ++ [q]) ∧
        (s.pred.unit = none → s.pred.queue = [] → t.pred.queue = [] ∧ t.pred.unit = some ⟨q, s.now⟩)) ∧
      (m.transit ≠ 0 → s.pred.queue.length = 4 → (∀ q ∈ s.pred.queue, q.slot ≠ j) →
        r.speedUnknown = true ∧ r.deadline = some ⟨m.replyTime, true⟩ ∧ t.pred = s.pred) ∧
      (t.seq.demands.get (.record j)).isSome = r.reached) ∧
  (∀ (s : State) (m : Movement) (i : Sec) (j : Slot) (r : TrainRec) (rest : List Slot) (x : Time),
    s.running = true → s.secs.movement = some m →
    m.leaves = .outside → m.enters = .sec i → (s.secs.table[i]).state ≠ .disturbed →
    0 < m.wheels → (s.secs.table[i]).count + m.wheels ≤ 255 →
    let side := headSide m.head
    s.trk.order (headTrack m.head) = (match side with | .a => j :: rest | .b => rest ++ [j]) →
    s.trk.recs[j] = some r → r.track = headTrack m.head → 0 < r.wheelsIn i → r.entrySide = side →
    r.heading = inward side → r.lastEntry = some x → m.replyTime ≤ x + s.settings.trainGap →
    ∃ t, exec .handOver s = .next t ∧ t.secs.movement = none ∧ t.trk.gens = s.trk.gens ∧
      (∀ y : Slot, (t.trk.recs[y]).isSome = true → (s.trk.recs[y]).isSome = true) ∧
      CountedTo (s.secs.table[i]) (t.secs.table[i]) ((s.secs.table[i]).count + m.wheels) ∧
      (∀ k : Sec, k ≠ i → t.secs.table[k] = s.secs.table[k]) ∧ (∀ y : Slot, y ≠ j → RecordUntouched s t y) ∧
      ∃ r', t.trk.recs[j] = some r' ∧ r'.gen = r.gen ∧ r'.entrySide = r.entrySide ∧ r'.strikeIn = r.strikeIn ∧
        (∀ k : Sec, r'.wheelsIn k = if k = i then r.wheelsIn i + m.wheels else r.wheelsIn k) ∧
        r'.heading = m.dir ∧ r'.lastEntry = some m.replyTime ∧ StatusFollows r.status r' ∧
        (r'.status = r.status → r'.approach = r.approach ∧ r'.seq = (if m.transit = 0 then r.seq else r.seq + 1)) ∧
        (m.transit = 0 → t.pred = s.pred) ∧
        (m.transit ≠ 0 →
          let q : Request := ⟨j, r.gen, r'.seq, (s.pred.table[warnIndex r.track r.entrySide]).distance,
            s.settings.spacing, m.transit.toNat, m.replyTime⟩
          ((∀ y ∈ s.pred.queue, y.slot ≠ j) → s.pred.queue.length < 4 → s.pred.unit.isSome = true →
            t.pred.queue = s.pred.queue ++ [q]) ∧
          ((∃ y ∈ s.pred.queue, y.slot = j) → s.pred.unit.isSome = true →
            t.pred.queue = s.pred.queue.map fun y => if y.slot = j then q else y) ∧
          ((∀ y ∈ s.pred.queue, y.slot ≠ j) → s.pred.queue.length = 4 → r'.speedUnknown = true ∧ t.pred = s.pred))) ∧
  (∀ (s : State) (m : Movement) (i k : Sec) (j : Slot), s.running = true → s.secs.movement = some m →
    m.leaves = .sec i → m.enters = .sec k →
    (s.secs.table[i]).state = .disturbed ∨ (s.secs.table[i]).count < m.wheels →
    (s.secs.table[k]).state ≠ .disturbed → 0 < m.wheels → (s.secs.table[k]).count + m.wheels ≤ 255 →
    slotAvailable s j = true → (∀ y : Slot, y < j → slotAvailable s y = false) →
    ∃ t, exec .handOver s = .next t ∧ t.secs.movement = none ∧ t.pred = s.pred ∧
      CountedTo (s.secs.table[k]) (t.secs.table[k]) ((s.secs.table[k]).count + m.wheels) ∧
      (∀ y : Slot, y ≠ j → t.trk.gens[y] = s.trk.gens[y]) ∧
      ∃ r, t.trk.recs[j] = some r ∧ t.trk.gens[j] = s.trk.gens[j] + 1 ∧ r.gen = s.trk.gens[j] + 1 ∧
        r.track = secTrack k ∧ r.entrySide = (match m.dir with | .ab => .a | .ba => .b) ∧ r.heading = m.dir ∧
        (∀ y : Sec, r.wheelsIn y = if y = k then m.wheels else 0) ∧
        r.strikeIn = none ∧ r.lastEntry = none ∧ r.approach = none ∧ r.seq = 0 ∧ r.predicted = none ∧ r.deadline = none ∧
        r.warning = (s.pred.table[warnIndex r.track r.entrySide]).warning ∧
        r.margin = (s.pred.table[warnIndex r.track r.entrySide]).margin ∧
        r.speedUnknown = false ∧ r.restartReq = false ∧ r.proceedShown = false ∧ r.overdueRep = false ∧ r.overrunRep = false ∧
        r.status = (if isIsland k = true then .crossing else .departing) ∧
        (t.seq.demands.get (.record j)).isSome = isIsland k ∧
        let unprotected := isIsland k = true ∧ ¬ (s.seq.state = .closed ∧ s.seq.proven = true)
        (unprotected → r.unprotRep = true ∧ ∃ e ∈ t.queue, ReportsKind e j r (·.unprotected) ∧ e.cls = .urgent) ∧
        (¬ unprotected → r.unprotRep = false))

/-- A hand-over disturbs: a counting section that holds fewer wheels than leave it, with NEGATIVE; a counting section
whose count would pass 255, with IMPLAUSIBLE; a counting section where a record must be formed and no slot is available,
with LIST_FULL, for wheels from outside and for wheels that emerge from a section DISTURBED before or made so by this
hand-over. Every record drops the wheels it holds in a section newly DISTURBED: with none left it is lost, else its
status is found again. Wheels into a DISTURBED section are absorbed, and those taken from a record into it, or into one
that they disturb by their number, are lost to it: with none left it is lost, else it takes the heading and the status
of R44. A lost record is removed with its demand, TRAIN_LOST is staged and its report gains LOST. The sections' fault
entries, events and reports follow their conditions. Each of these events is staged unless the staging queue is full.
The model's choices in it: log 27 (IMPLAUSIBLE also where no slot is available), log 46 (TRAIN_LOST names the section
that the wheels entered). -/
def Obligations.HandOverDisturbsSections : Prop :=
  ∀ (s : State) (m : Movement), s.running = true → s.secs.movement = some m → 0 < m.wheels →
    ∃ t, exec .handOver s = .next t ∧ t.secs.movement = none ∧
      (∀ i : Sec, m.leaves = .sec i → (s.secs.table[i]).state ≠ .disturbed → (s.secs.table[i]).count < m.wheels →
        DisturbedIn t i .negative) ∧
      (∀ j : Sec, m.enters = .sec j → (s.secs.table[j]).state ≠ .disturbed → 255 < (s.secs.table[j]).count + m.wheels →
        DisturbedIn t j .implausible) ∧
      (∀ j : Sec, m.enters = .sec j → (s.secs.table[j]).state ≠ .disturbed → (s.secs.table[j]).count + m.wheels ≤ 255 →
        (m.leaves = .outside ∧ joining s (headTrack m.head) (headSide m.head) m.replyTime = none) ∨
          (∃ i, m.leaves = .sec i ∧ ((s.secs.table[i]).state = .disturbed ∨ (s.secs.table[i]).count < m.wheels)) →
        (∀ k : Slot, slotAvailable s k = false) → DisturbedIn t j .listFull) ∧
      (∀ j : Sec, m.enters = .sec j → (s.secs.table[j]).state = .disturbed → t.secs.table[j] = s.secs.table[j]) ∧
      (∀ i : Sec, PointFollows s t (secPoint i) ((t.secs.table[i]).reason.map .section_)) ∧
      (∀ (x : Slot) (r : TrainRec), s.trk.recs[x] = some r → x ∈ s.trk.order r.track →
        (∀ i, m.leaves = .sec i → NewlyDisturbed s t i ∨ (s.secs.table[i]).state = .disturbed ∨ r.wheelsIn i = 0) →
        (∀ k : Sec, 0 < r.wheelsIn k → r.total = r.wheelsIn k → NewlyDisturbed s t k → LostIn s t x r k) ∧
        ((∃ k : Sec, 0 < r.wheelsIn k ∧ NewlyDisturbed s t k) → (∃ k : Sec, 0 < r.wheelsIn k ∧ ¬ NewlyDisturbed s t k) →
          (∀ k, m.enters = .sec k → m.leaves = .outside → 0 < r.wheelsIn k → NewlyDisturbed s t k) →
          ∃ r', t.trk.recs[x] = some r' ∧ r'.gen = r.gen ∧ r'.heading = r.heading ∧
            ((r.status = .stopped → r.wIsland = 0 ∧ (r.wEntry = 0 ∨ r.wExit = 0)) → StatusFollows r.status r') ∧
            (∀ k : Sec, NewlyDisturbed s t k → r'.wheelsIn k = 0) ∧
            (∀ k : Sec, ¬ NewlyDisturbed s t k → r'.wheelsIn k = r.wheelsIn k))) ∧
      (∀ (x : Slot) (r : TrainRec), s.trk.recs[x] = some r → ∀ i j : Sec, m.leaves = .sec i → m.enters = .sec j →
        (s.secs.table[i]).state ≠ .disturbed → m.wheels ≤ (s.secs.table[i]).count →
        (s.secs.table[j]).state = .disturbed ∨ 255 < (s.secs.table[j]).count + m.wheels →
        r.track = secTrack i → FirstGiver s i m.dir x → m.wheels ≤ r.wheelsIn i →
        let dropped := if (s.secs.table[j]).state = .disturbed then 0 else r.wheelsIn j
        CountedTo (s.secs.table[i]) (t.secs.table[i]) ((s.secs.table[i]).count - m.wheels) ∧
        ((s.secs.table[j]).state = .disturbed → ∀ y : Slot, y ≠ x → RecordUntouched s t y) ∧
        (r.total = m.wheels + dropped → LostIn s t x r j) ∧
        (m.wheels + dropped < r.total → ∃ r', t.trk.recs[x] = some r' ∧ r'.gen = r.gen ∧ r'.heading = m.dir ∧
          (∀ k : Sec, r'.wheelsIn k =
            if k = i then r.wheelsIn i - m.wheels else if k = j then r.wheelsIn j - dropped else r.wheelsIn k) ∧
          ((r.status = .stopped → r.wIsland = 0 ∧ (r.wEntry = 0 ∨ r.wExit = 0)) → StatusFollows r.status r')))

/-! ## Record timers and predictions -/

/-- OVERDUE_EXPIRY of an APPROACHING record: on a halt approach it becomes STOPPED without a demand; on any other it
stays APPROACHING and its report gains OVERDUE once. RESTART_TIMEOUT_EXPIRY: restart requested and proceed shown are
cleared together, the proceed shown time is kept, and a STOPPED record's demand goes. The model's choices in it: log
2. -/
def Obligations.OverdueAndRestartTimeout : Prop :=
  (∀ (s : State) (i : Slot) (r : TrainRec), s.running = true → s.trk.recs[i] = some r → r.status = .approaching →
      r.overdueTime < Config.runEnd →
      ∃ t, exec (.overdueExpiry i) s = .next t ∧ t.now = max s.now r.overdueTime ∧
        (isHalt r.approachSide = true →
          t.trk.recs[i] = some { r with
            status := .stopped, restartReq := false, proceedShown := false, restartDue := none } ∧
          t.seq.demands.get (.record i) = none) ∧
        (isHalt r.approachSide = false →
          (∃ r', t.trk.recs[i] = some r' ∧ r'.status = .approaching ∧ r'.overdueRep = true ∧ r'.deadline = r.deadline) ∧
          (t.seq.demands.get (.record i)).isSome = r.reached ∧
          (r.overdueRep = false → ∃ e ∈ t.queue, ReportsOverdue e i r)) ∧
        (∀ j : Slot, j ≠ i → (t.trk.recs[j]).map (·.status) = (s.trk.recs[j]).map (·.status))) ∧
  (∀ (s : State) (i : Slot) (r : TrainRec) (d : Time), s.running = true → s.trk.recs[i] = some r →
      r.restartDue = some d → d < Config.runEnd →
      ∃ t, exec (.restartTimeoutExpiry i) s = .next t ∧ t.now = max s.now d ∧
        t.trk.recs[i] = some { r with restartReq := false, proceedShown := false, restartDue := none } ∧
        (r.status = .stopped → t.seq.demands.get (.record i) = none))

/-- DEADLINE_EXPIRY: the deadline keeps its time and is reached, and an APPROACHING record's demand is raised at the
present time, which takes an OPEN crossing to AMBER. PREDICTION_GRACE_EXPIRY: a record without a prediction that is
not speed-unknown becomes so, and its deadline is reached; any other record keeps its deadline. The model's choices in
it: log 2. -/
def Obligations.DeadlineAndGraceRaiseDemands : Prop :=
  (∀ (s : State) (i : Slot) (r : TrainRec) (d : Time), s.running = true → s.trk.recs[i] = some r →
      r.deadline = some ⟨d, false⟩ → d < Config.runEnd →
      ∃ t, exec (.deadlineExpiry i) s = .next t ∧ t.now = max s.now d ∧ ∃ r', t.trk.recs[i] = some r' ∧
        r'.deadline = some ⟨d, true⟩ ∧ r'.status = r.status ∧ r'.predicted = r.predicted ∧
        (r.status = .approaching →
          (s.seq.demands.get (.record i) = none → t.seq.demands.get (.record i) = some t.now) ∧
          (∀ x, s.seq.demands.get (.record i) = some x → t.seq.demands.get (.record i) = some x) ∧
          (s.seq.state = .opened → s.seq.demands.get (.record i) = none → t.seq.state = .amber))) ∧
  (∀ (s : State) (i : Slot) (r : TrainRec) (x : Time), s.running = true → s.trk.recs[i] = some r →
      r.graceOn = true → r.strikeIn = some x → x + 250 < Config.runEnd →
      ∃ t, exec (.predictionGraceExpiry i) s = .next t ∧ t.now = max s.now (x + 250) ∧
        ∃ r', t.trk.recs[i] = some r' ∧ r'.graceOn = false ∧ r'.seq = r.seq ∧ r'.predicted = r.predicted ∧
        (r.predicted = none ∧ r.speedUnknown = false → r'.speedUnknown = true ∧
          r'.deadline = (if r.reached then r.deadline else some ⟨x + 250, true⟩) ∧
          (r.status = .approaching → (t.seq.demands.get (.record i)).isSome = true)) ∧
        (¬ (r.predicted = none ∧ r.speedUnknown = false) → r'.speedUnknown = r.speedUnknown ∧ r'.deadline = r.deadline))

/-- COMPUTATION_COMPLETE, 50 ms after its start: a current result gives the record its predicted arrival, the exact
quotient clamped to 600,000 after the reply time, and a deadline not yet reached becomes the candidate; a stale result
changes no record. The unit takes the next request. COMPUTATION_START: an idle unit takes the request at the head of
the queue; otherwise nothing changes. The model's choices in it: log 2, log 10. -/
def Obligations.ComputationsGivePredictions : Prop :=
  (∀ (s : State) (u : Computing), s.running = true → s.pred.unit = some u → u.start + 50 < Config.runEnd →
      ∃ t, exec .computationComplete s = .next t ∧ t.now = max s.now (u.start + 50) ∧
        (s.pred.queue = [] → t.pred.unit = none ∧ t.pred.queue = []) ∧
        (∀ q qs, s.pred.queue = q :: qs → t.pred.unit = some ⟨q, t.now⟩ ∧ t.pred.queue = qs) ∧
        (∀ r, s.trk.recs[u.req.slot] = some r → r.gen = u.req.gen → r.seq = u.req.seq →
          ∃ r', t.trk.recs[u.req.slot] = some r' ∧
            let arrival := u.req.replyTime + min 600000 (u.req.distance * u.req.transit * 100 / u.req.spacing)
            r'.predicted = some arrival ∧ r'.speedUnknown = false ∧
            (r.reached = true → r'.deadline = r.deadline) ∧
            (r.reached = false → r'.deadline = some ⟨arrival - r.warning, decide (arrival - r.warning ≤ t.now)⟩) ∧
            (r'.status = .approaching → (t.seq.demands.get (.record u.req.slot)).isSome = r'.reached)) ∧
        ((∀ r, s.trk.recs[u.req.slot] = some r → ¬ (r.gen = u.req.gen ∧ r.seq = u.req.seq)) →
          ∀ i : Slot, (t.trk.recs[i]).map (fun r => (r.predicted, r.deadline, r.status)) =
            (s.trk.recs[i]).map (fun r => (r.predicted, r.deadline, r.status)))) ∧
  (∀ s : State, s.running = true →
      (s.pred.unit = none → ∀ q qs, s.pred.queue = q :: qs →
        exec .computationStart s = .next { s with pred := { s.pred with unit := some ⟨q, s.now⟩, queue := qs } }) ∧
      (s.pred.unit.isSome = true ∨ s.pred.queue = [] → exec .computationStart s = .next s))

/-! ## The closing sequence -/

/-- In AMBER, the expiry of the amber timer makes the state RED_WARN: the ambers go dark, the flasher starts the reds
with the left ones, the audible warnings sound, and the red warn timer starts. The drives, the demands and the other
timers keep what they had. The model's choices in it: log 18 (the phase timer's expiry is kept in half milliseconds). -/
def Obligations.AmberExpiryEntersRedWarn : Prop :=
  ∀ (s : State) (d : Time), s.running = true → s.seq.state = .amber → s.seq.amberDue = some d → d < Config.runEnd →
    s.seq.flasher = none →
    ∃ t, exec .amberExpiry s = .next t ∧ (s.now ≤ d → t.now = d) ∧ RoadShows t .redWarn .dark .flash true ∧
      t.seq.entered = t.now ∧
      t.seq.flasher = some ⟨false, 2 * t.now + s.settings.timers.flashPeriod⟩ ∧
      t.seq.amberDue = none ∧ t.seq.redWarnDue = some (t.now + s.settings.timers.redWarn) ∧
      t.seq.drives = s.seq.drives ∧ t.seq.demands = s.seq.demands ∧ t.seq.entryDue = s.seq.entryDue ∧
      t.seq.exitDue = s.seq.exitDue ∧ t.seq.minClosedDue = s.seq.minClosedDue ∧ t.seq.raiseDue = s.seq.raiseDue ∧
      t.seq.settleDue = s.seq.settleDue ∧ t.seq.clearLimitDue = s.seq.clearLimitDue ∧ t.seq.testDue = s.seq.testDue

/-- In RED_WARN, with every target RAISE and no drive at LOWER (as R75 has them there), the expiry of the red warn
timer makes the state ENTRY_LOWER: the entry booms' targets become LOWER and their drives go to HOLD, for the reversal
pause when they were RAISE; the exit booms keep RAISE, the entry travel limit starts, and the reds and the audible
warnings go on. With both entry booms DOWN already the same event goes on to CLEARANCE (R81). -/
def Obligations.RedWarnExpiryLowersEntryBooms : Prop :=
  ∀ (s : State) (d : Time), s.running = true → s.seq.state = .redWarn → s.seq.redWarnDue = some d → d < Config.runEnd →
    (∀ b : Boom, (s.seq.drives[b]).target = .raise ∧ (s.seq.drives[b]).output ≠ .lower) →
    (∀ i ∈ reds, s.seq.lamps[i] = .flash) → s.seq.flasher.isSome = true →
    ∃ t, exec .redWarnExpiry s = .next t ∧ (s.now ≤ d → t.now = d) ∧
      (∀ b ∈ entryBooms, (t.seq.drives[b]).target = .lower ∧ (t.seq.drives[b]).output = .hold ∧
        ((s.seq.drives[b]).output = .raise → (t.seq.drives[b]).pauseDue = some (t.now + 500))) ∧
      (∀ b ∈ exitBooms, t.seq.drives[b] = s.seq.drives[b]) ∧
      t.seq.flasher = s.seq.flasher ∧ t.seq.redWarnDue = none ∧ t.seq.demands = s.seq.demands ∧
      (¬ (s.prv.position 0 = .down ∧ s.prv.position 2 = .down) →
        RoadShows t .entryLower .dark .flash true ∧
        t.seq.entryDue = some (t.now + s.settings.timers.entryLimit)) ∧
      (s.prv.position 0 = .down ∧ s.prv.position 2 = .down → RoadShows t .clearance .dark .flash false)

/-- The entry travel limit: START_CLOSE becomes CLOSED, and ENTRY_LOWER becomes CLEARANCE with its limit started and
its settle timer running exactly while the detector shows CLEAR; the condition of every named boom that is not DOWN
stands. In EXIT_LOWER the exit travel limit takes the crossing to CLOSED, with the condition of every exit boom that
is not DOWN standing and the min closed timer started; with a demand standing it stays CLOSED. The Fault Supervisor does its
work ahead of the change of state: from the mode NORMAL, FAULT_RAISED of each named boom that is not DOWN, in point order,
MODE, and then CROSSING_STATE are staged. The model's choices in it: log 2, log 12 (MODE too stands ahead). -/
def Obligations.EntryAndExitLimitsJudgeBooms : Prop :=
  (∀ (s : State) (d : Time), s.running = true → s.seq.entryDue = some d → d < Config.runEnd →
      (s.seq.state = .startClose → s.seq.demands.isEmpty = false →
        ∃ t, exec .entryTravelLimitExpiry s = .next t ∧ t.now = max s.now d ∧ t.seq.state = .closed ∧
          t.seq.entryDue = none ∧
          t.seq.minClosedDue = (if s.settings.timers.minClosed = 0 then none else some (t.now + s.settings.timers.minClosed)) ∧
          ∀ b : Boom, s.prv.position b ≠ .down → (t.prv.booms[b]).isSome = true) ∧
      (s.seq.state = .entryLower →
        ∃ t, exec .entryTravelLimitExpiry s = .next t ∧ t.now = max s.now d ∧ RoadShows t .clearance .dark .flash false ∧
          t.seq.entryDue = none ∧ t.seq.clearLimitDue = some (t.now + s.settings.timers.clearLimit) ∧
          t.seq.settleDue = (if s.prv.detector = .clear then some (t.now + s.settings.timers.clearSettle) else none) ∧
          t.seq.drives = s.seq.drives ∧
          ∀ b ∈ entryBooms, s.prv.position b ≠ .down → (t.prv.booms[b]).isSome = true)) ∧
  (∀ (s : State) (d : Time), s.running = true → s.seq.state = .exitLower → s.seq.exitDue = some d → d < Config.runEnd →
      s.seq.demands.isEmpty = false →
      ∃ t, exec .exitTravelLimitExpiry s = .next t ∧ t.now = max s.now d ∧ RoadShows t .closed .dark .flash false ∧
        t.seq.exitDue = none ∧ (∀ b : Boom, (t.seq.drives[b]).target = .lower) ∧
        t.seq.minClosedDue = (if s.settings.timers.minClosed = 0 then none else some (t.now + s.settings.timers.minClosed)) ∧
        (t.seq.proven = true ↔ ∀ b : Boom, s.prv.position b = .down ∧ s.prv.intact b = true) ∧
        ∀ b ∈ exitBooms, s.prv.position b ≠ .down → (t.prv.booms[b]).isSome = true) ∧
  (∀ (s : State) (c : Instr) (x y : Crossing) (bs : List Boom) (due : Option Time) (d : Time), s.running = true →
      (c, x, y, bs, due) ∈ [(Instr.entryTravelLimitExpiry, Crossing.startClose, Crossing.closed, allBooms, s.seq.entryDue),
        (.entryTravelLimitExpiry, .entryLower, .clearance, entryBooms, s.seq.entryDue),
        (.exitTravelLimitExpiry, .exitLower, .closed, exitBooms, s.seq.exitDue)] →
      due = some d → d < Config.runEnd → s.seq.state = x → s.seq.demands.isEmpty = false →
      s.flt.mode = .normal → modeOf s.seq s.flt = .normal → (∃ b ∈ bs, s.prv.position b ≠ .down) →
      (∀ b ∈ bs, s.prv.position b ≠ .down → s.prv.booms[b] = none ∧ s.flt.present[boomPoint b] = false ∧
        (s.flt.table[boomPoint b]).state = .healthy) →
      ∃ t, exec c s = .next t ∧ t.seq.state = y ∧ t.flt.mode = .failed ∧
        Staged s t ((bs.filter fun b => s.prv.position b ≠ .down).map (fun b => .faultRaised (boomPoint b) .healthy .faulty
            (min 255 ((s.flt.table[boomPoint b]).count + 1)) (some (.boom .notDownAtLimit))) ++
          [.mode .normal .failed, .crossingState x y t.now false]))

/-- In CLEARANCE the settle timer's expiry takes the crossing to EXIT_LOWER with the exit booms handed LOWER; with both DOWN
already the same event goes on to CLOSED, where a demand or a min closed time keeps it. The limit's expiry leaves the state
and presents FP27, which makes the mode FAILED. FP27's entry, event and report follow its condition. The model's choices in
it: log 2, log 12 (the two CROSSING_STATE events on to CLOSED stand ahead of FP27's FAULT_CLEARED and of MODE, an order that
the rules leave open). -/
def Obligations.ClearanceEndsBySettleOrStaysObstructed : Prop :=
  ∀ (s : State) (d : Time), s.running = true → s.seq.state = .clearance → d < Config.runEnd →
    (s.seq.settleDue = some d → ¬ (s.prv.position 1 = .down ∧ s.prv.position 3 = .down) →
      ∃ t, exec .clearanceSettleExpiry s = .next t ∧ t.now = max s.now d ∧ RoadShows t .exitLower .dark .flash false ∧
        (t.seq.drives[(1 : Boom)]).target = .lower ∧ (t.seq.drives[(3 : Boom)]).target = .lower ∧
        t.seq.drives[(0 : Boom)] = s.seq.drives[(0 : Boom)] ∧ t.seq.drives[(2 : Boom)] = s.seq.drives[(2 : Boom)] ∧
        t.seq.settleDue = none ∧ t.seq.clearLimitDue = none ∧
        t.seq.exitDue = some (t.now + s.settings.timers.exitLimit) ∧ t.flt.present[fpObstructed] = false ∧
        PointFollows s t fpObstructed none) ∧
    (s.seq.settleDue = some d → s.prv.position 1 = .down → s.prv.position 3 = .down →
      s.seq.demands.isEmpty = false ∨ s.settings.timers.minClosed ≠ 0 →
      ∃ t, exec .clearanceSettleExpiry s = .next t ∧ t.now = max s.now d ∧ PassedExitLower s t) ∧
    (s.seq.clearLimitDue = some d →
      ∃ t, exec .clearanceLimitExpiry s = .next t ∧ t.now = max s.now d ∧ t.seq.state = .clearance ∧
        t.seq.clearLimitDue = none ∧ t.seq.settleDue = s.seq.settleDue ∧ t.seq.drives = s.seq.drives ∧
        t.flt.present[fpObstructed] = true ∧ t.flt.mode = .failed ∧
        PointFollows s t fpObstructed (some .clearanceLimit))

/-- MIN_CLOSED_EXPIRY makes the opening check: with no demand and no record imminent the crossing leaves CLOSED for
RAISING, every boom handed RAISE and the raise travel limit started; otherwise it stays CLOSED. The model's choices in
it: log 2. -/
def Obligations.MinClosedMakesOpeningCheck : Prop :=
  ∀ (s : State) (d : Time), s.running = true → s.seq.state = .closed → s.seq.minClosedDue = some d → d < Config.runEnd →
    let opens := s.seq.demands.isEmpty = true ∧
      ∀ r ∈ s.trk.liveRecs, r.status = .approaching →
        ∃ x, r.deadline = some x ∧ x.reached = false ∧ max s.now d + s.settings.secondWindow ≤ x.time
    ∃ t, exec .minClosedExpiry s = .next t ∧ t.now = max s.now d ∧ t.seq.minClosedDue = none ∧
      (opens → ¬ (∀ b : Boom, s.prv.position b = .up) →
        RoadShows t .raising .dark .flash false ∧ t.seq.raiseDue = some (t.now + s.settings.timers.raiseLimit) ∧
        ∀ b : Boom, (t.seq.drives[b]).target = .raise) ∧
      (¬ opens → t.seq.state = .closed ∧ t.seq.drives = s.seq.drives)

/-- RAISE_TRAVEL_LIMIT_EXPIRY in RAISING and TEST_TRAVEL_LIMIT_EXPIRY in TEST judge the booms against their targets
and leave the crossing state as it is. The model's choices in it: log 2. -/
def Obligations.RaiseAndTestLimitsJudgeBooms : Prop :=
  ∀ (s : State) (d : Time), s.running = true → d < Config.runEnd →
    (s.seq.state = .raising → s.seq.raiseDue = some d →
      ∃ t, exec .raiseTravelLimitExpiry s = .next t ∧ t.now = max s.now d ∧ t.seq.state = .raising ∧
        t.seq.raiseDue = none ∧ t.seq.drives = s.seq.drives ∧
        ∀ b : Boom, (t.prv.booms[b]).isSome = true ↔ ((s.prv.booms[b]).isSome = true ∨ s.prv.position b ≠ .up)) ∧
    (∀ b : Boom, s.seq.state = .test → s.seq.testDue[b] = some d →
      ∃ t, exec (.testTravelLimitExpiry b) s = .next t ∧ t.now = max s.now d ∧ t.seq.state = .test ∧
        t.seq.testDue = put s.seq.testDue b none ∧ t.seq.drives = s.seq.drives ∧
        ((t.prv.booms[b]).isSome = true ↔ ((s.prv.booms[b]).isSome = true ∨
          s.prv.position b ≠ (match (s.seq.drives[b]).target with | .raise => .up | .lower => .down))) ∧
        ∀ x : Boom, x ≠ b → t.prv.booms[x] = s.prv.booms[x])

/-- REVERSAL_PAUSE_EXPIRY: the drive's output becomes its target as it stands, and nothing else changes.
FLASH_PHASE_EXPIRY: the phase changes, the timer starts again, and the check timers of all four reds start; the other
lamps' check timers and every command stay. The model's choices in it: log 2, log 18 (half an odd flash period is kept
exactly: the change falls in the whole millisecond reached, and the next phase is timed from the expiry kept). -/
def Obligations.PausesEndAndFlasherAlternates : Prop :=
  (∀ (s : State) (b : Boom) (d : Time), s.running = true → (s.seq.drives[b]).pauseDue = some d → d < Config.runEnd →
      ∃ t, exec (.reversalPauseExpiry b) s = .next t ∧ t.now = max s.now d ∧ SameOutside [.now, .seq] s t ∧
        t.seq = { s.seq with drives := t.seq.drives } ∧ (∀ x : Boom, x ≠ b → t.seq.drives[x] = s.seq.drives[x]) ∧
        (t.seq.drives[b]).target = (s.seq.drives[b]).target ∧ (t.seq.drives[b]).pauseDue = none ∧
        (t.seq.drives[b]).output = (match (s.seq.drives[b]).target with | .raise => .raise | .lower => .lower)) ∧
  (∀ (s : State) (f : Flasher), s.running = true → s.seq.flasher = some f → f.dueHalves / 2 < Config.runEnd →
      ∃ t, exec .flashPhaseExpiry s = .next t ∧ t.now = max s.now (f.dueHalves / 2) ∧ SameOutside [.now, .seq, .prv] s t ∧
        t.seq = { s.seq with flasher := some ⟨!f.right, max (2 * t.now) f.dueHalves + s.settings.timers.flashPeriod⟩ } ∧
        (∀ i ∈ reds, (t.prv.lamps[i]).checkDue = some (t.now + 200)) ∧
        (∀ i : Lamp, i ∉ reds → t.prv.lamps[i] = s.prv.lamps[i]) ∧ t.prv.contacts = s.prv.contacts)

/-! ## Proving -/

/-- CONTACT_INPUT_CHANGE moves the raw level alone of its pin, in part reset too; in a running part, unless its boom
is masked, the settle timer starts at a difference, runs on while it lasts and stops when it ends. BOOM_MASK_END ends
the mask and starts the timer of each of the boom's contacts that differs. The model's choices in it: log 2, log 5,
log 19. -/
def Obligations.ContactTimersFollowRawLevels : Prop :=
  (∀ (s : State) (i : Fin 16) (made : Bool), ∃ t, exec (.contactInputChange i made) s = .next t ∧ SameOutside [.prv] s t ∧
    (t.prv.contacts[i]).raw = made ∧ (t.prv.contacts[i]).settled = (s.prv.contacts[i]).settled ∧
    (∀ j : Fin 16, j ≠ i → t.prv.contacts[j] = s.prv.contacts[j]) ∧
    t.prv.masks = s.prv.masks ∧ t.prv.booms = s.prv.booms ∧ t.prv.lamps = s.prv.lamps ∧
    (t.prv.contacts[i]).due =
      if s.running = false ∨ (∃ b : Boom, i ∈ boomContacts b ∧ (s.prv.masks[b]).isSome = true) then (s.prv.contacts[i]).due
      else if made = (s.prv.contacts[i]).settled then none
      else if (s.prv.contacts[i]).due = none then some (s.now + 100) else (s.prv.contacts[i]).due) ∧
  (∀ (s : State) (b : Boom) (d : Time), s.running = true → s.prv.masks[b] = some d → d < Config.runEnd →
    ∃ t, exec (.boomMaskEnd b) s = .next t ∧ t.now = max s.now d ∧ SameOutside [.now, .prv] s t ∧
      t.prv.masks = put s.prv.masks b none ∧ t.prv.booms = s.prv.booms ∧ t.prv.lamps = s.prv.lamps ∧
      (∀ i : Fin 16, i ∉ boomContacts b → t.prv.contacts[i] = s.prv.contacts[i]) ∧
      ∀ i ∈ boomContacts b, (t.prv.contacts[i]).raw = (s.prv.contacts[i]).raw ∧
        (t.prv.contacts[i]).settled = (s.prv.contacts[i]).settled ∧
        ((s.prv.contacts[i]).raw ≠ (s.prv.contacts[i]).settled → (s.prv.contacts[i]).due = none →
          (t.prv.contacts[i]).due = some (t.now + 100)) ∧
        ((s.prv.contacts[i]).raw = (s.prv.contacts[i]).settled → (t.prv.contacts[i]).due = none))

/-- CONTACT_SETTLE_EXPIRY: the settled level takes the raw level and the other inputs keep theirs; the supply's points
follow their contacts, the detector's point follows its fault, a boom that comes off DOWN in CLOSED, enters CONFLICT or
becomes BROKEN presents its condition with that cause, and a boom at its commanded end with INTACT has none; a boom's
point follows its condition. Each of these points' entries, events and reports follows the arising and the going of its
condition. The reports of boom positions move the sequence: all four DOWN end START_CLOSE, both entry booms DOWN end
ENTRY_LOWER, both exit booms DOWN end EXIT_LOWER, and all four UP end RAISING. In CLEARANCE a change of the detector
starts the settle timer when it shows CLEAR and stops it when it does not. The model's choices in it: log 2, log 14,
log 26. -/
def Obligations.SettledContactsGiveConditionsAndMoves : Prop :=
  (∀ (s : State) (i : Fin 16) (d : Time), s.running = true → (s.prv.contacts[i]).due = some d → d < Config.runEnd →
      ∃ t, exec (.contactSettleExpiry i) s = .next t ∧ t.now = max s.now d ∧
        (∀ j : Fin 16, t.prv.settled j = if j = i then (s.prv.contacts[i]).raw else s.prv.settled j) ∧
        (i = mainsContact → t.flt.present[fpMains] = !(s.prv.contacts[i]).raw) ∧
        (i = batteryContact → t.flt.present[fpBattery] = (s.prv.contacts[i]).raw ∧
          (s.seq.state = .test → (s.prv.contacts[i]).raw = true → t.seq.state ≠ .test)) ∧
        (i = clearContact ∨ i = healthyContact →
          s.flt.present[fpDetector] = (s.prv.detector == .fault) → t.flt.present[fpDetector] = (t.prv.detector == .fault)) ∧
        (∀ b : Boom, i ∈ boomContacts b → s.prv.booms[b] = none → s.seq.state = .closed → s.prv.position b = .down →
          t.prv.position b ≠ .down → (s.seq.drives[b]).target = .lower → t.prv.booms[b] = some .leftDown) ∧
        (∀ b : Boom, i ∈ boomContacts b → t.seq.drives[b] = s.seq.drives[b] → t.prv.intact b = true →
          t.prv.position b = (match (s.seq.drives[b]).target with | .raise => .up | .lower => .down) →
          t.prv.booms[b] = none) ∧
        (∀ b : Boom, i ∈ boomContacts b → s.prv.booms[b] = none → t.prv.position b = .conflict →
          s.prv.position b ≠ .conflict → t.flt.present[boomPoint b] = true ∧ t.prv.booms[b] =
            if s.seq.state = .closed ∧ s.prv.position b = .down then some .leftDown else some .conflict) ∧
        (∀ b : Boom, i ∈ boomContacts b → s.prv.booms[b] = none → s.prv.intact b = true → t.prv.intact b = false →
          t.prv.booms[b] = some .broken ∧ t.flt.present[boomPoint b] = true) ∧
        (∀ b : Boom, (s.prv.booms[b] = none → (t.prv.booms[b]).isSome = true → t.flt.present[boomPoint b] = true) ∧
          ((s.prv.booms[b]).isSome = true → t.prv.booms[b] = none → t.flt.present[boomPoint b] = false)) ∧
        (i = mainsContact → PointFollows s t fpMains none) ∧ (i = batteryContact → PointFollows s t fpBattery none) ∧
        (i = clearContact ∨ i = healthyContact → PointFollows s t fpDetector (some .detectorFault)) ∧
        (∀ b : Boom, i ∈ boomContacts b → PointFollows s t (boomPoint b) ((t.prv.booms[b]).map .boom)) ∧
        (s.seq.state = .clearance → i = clearContact ∨ i = healthyContact → t.seq.state = .clearance ∧ t.seq.settleDue =
          if t.prv.detector = s.prv.detector then s.seq.settleDue
          else if t.prv.detector = .clear then some (t.now + s.settings.timers.clearSettle) else none)) ∧
  (∀ (s : State) (i : Fin 16) (d : Time) (b : Boom), s.running = true → (s.prv.contacts[i]).due = some d →
      d < Config.runEnd → i ∈ boomContacts b →
      ∃ t, exec (.contactSettleExpiry i) s = .next t ∧
        (s.seq.state = .startClose → (∀ x : Boom, t.prv.position x = .down) → s.seq.demands.isEmpty = false →
          t.seq.state = .closed) ∧
        (s.seq.state = .entryLower → (∀ x ∈ entryBooms, t.prv.position x = .down) → t.seq.state = .clearance) ∧
        (s.seq.state = .exitLower → (∀ x ∈ exitBooms, t.prv.position x = .down) → s.seq.demands.isEmpty = false →
          t.seq.state = .closed) ∧
        (s.seq.state = .raising → (∀ x : Boom, t.prv.position x = .up) → t.seq.state = .opened))

/-- A check of a lamp item, at its timer's expiry or at a change of the sense of a steady item whose timer has
expired: a wrong check presents the condition when it is absent, and a correct check clears it only when it shows the
state that the fault denied. The point's entry, event and report follow the arising and the going, and every other point
keeps its condition and its entry. The model's choices in it: log 2, log 5. -/
def Obligations.LampChecks : Prop :=
  ∀ (s : State) (i : Lamp), s.running = true →
    let checked := fun (t : State) (lit : Bool) =>
      ((s.prv.lamps[i]).fault = none → expectedLit s.seq i = lit → (t.prv.lamps[i]).fault = none) ∧
      ((s.prv.lamps[i]).fault = none → expectedLit s.seq i = true → lit = false →
        (t.prv.lamps[i]).fault = some .seenDark ∧ t.flt.present[lampPoint i] = true) ∧
      ((s.prv.lamps[i]).fault = none → expectedLit s.seq i = false → lit = true →
        (t.prv.lamps[i]).fault = some .seenLit ∧ t.flt.present[lampPoint i] = true) ∧
      ((s.prv.lamps[i]).fault = some .seenDark → expectedLit s.seq i = true → lit = true →
        (t.prv.lamps[i]).fault = none ∧ t.flt.present[lampPoint i] = false) ∧
      ((s.prv.lamps[i]).fault = some .seenLit → expectedLit s.seq i = false → lit = false →
        (t.prv.lamps[i]).fault = none ∧ t.flt.present[lampPoint i] = false) ∧
      ((s.prv.lamps[i]).fault = some .seenDark → expectedLit s.seq i = false ∨ lit = false →
        (t.prv.lamps[i]).fault = some .seenDark) ∧
      ((s.prv.lamps[i]).fault = some .seenLit → expectedLit s.seq i = true ∨ lit = true →
        (t.prv.lamps[i]).fault = some .seenLit) ∧
      PointFollows s t (lampPoint i) ((t.prv.lamps[i]).fault.map .lamp) ∧
      (¬ LeftMaintenance s t → ∀ p : Point, p ≠ lampPoint i ∨ (t.prv.lamps[i]).fault = (s.prv.lamps[i]).fault →
        PointKept s t p)
    (∀ d, (s.prv.lamps[i]).checkDue = some d → d < Config.runEnd →
      ∃ t, exec (.lampCheckExpiry i) s = .next t ∧ t.now = max s.now d ∧ (t.prv.lamps[i]).sense = (s.prv.lamps[i]).sense ∧
        checked t (s.prv.lamps[i]).sense) ∧
    (∀ lit : Bool, lit ≠ (s.prv.lamps[i]).sense → (s.prv.lamps[i]).expired = true → s.seq.lamps[i] ≠ .flash →
      ∃ t, exec (.lampSenseChange i lit) s = .next t ∧ (t.prv.lamps[i]).sense = lit ∧ checked t lit) ∧
    (∀ lit : Bool, (s.prv.lamps[i]).expired = false ∨ s.seq.lamps[i] = .flash →
      ∃ t, exec (.lampSenseChange i lit) s = .next t ∧ SameOutside [.prv] s t ∧
        t.prv.lamps[i] = { s.prv.lamps[i] with sense := lit } ∧ (∀ j : Lamp, j ≠ i → t.prv.lamps[j] = s.prv.lamps[j]) ∧
        t.prv.contacts = s.prv.contacts ∧ t.prv.booms = s.prv.booms)

/-! ## The signaller link -/

/-- LINK_CHARACTER outside a break: in HUNT a good lead character with the crossing address begins a frame and any
other character is discarded; in RECEIVING a character with a framing error or a lead bit cuts the frame, and the lead
character then begins a new one if it carries the address. An ordinary character fills the next position and starts the
pause timer again; the sixth character of a SET_WARNING group with a good group check also does the work of
SET_WARNING_GROUP, and one with a bad check does not. The model's choices in it: log 20. -/
def Obligations.LinkCharactersBeginAndCutFrames : Prop :=
  ∀ (s : State) (v : Byte) (lead framing : Bool), s.running = true → s.link.brk = none →
    (s.link.rx = none → lead = true → framing = false → v = s.settings.address →
      ∃ t, exec (.linkCharacter v lead framing) s = .next t ∧ SameOutside [.link] s t ∧
        t.link.rx = some [] ∧ t.link.pauseDue = some (s.now + 500)) ∧
    (s.link.rx = none → lead = false ∨ framing = true ∨ v ≠ s.settings.address →
      exec (.linkCharacter v lead framing) s = .next s) ∧
    (∀ cs, s.link.rx = some cs → framing = true →
      ∃ t, exec (.linkCharacter v lead framing) s = .next t ∧ t.link.rx = none ∧ t.link.pauseDue = none ∧
        t.bus = s.bus.stage s.now (.linkCut .framing cs.head? (cs.length + 1) s.link.groups) ∧
        t.link.timerDue = s.link.timerDue ∧ t.link.sending = s.link.sending) ∧
    (∀ cs, s.link.rx = some cs → framing = false → lead = true →
      ∃ t, exec (.linkCharacter v lead framing) s = .next t ∧
        t.link.rx = (if v = s.settings.address then some [] else none) ∧
        t.bus = s.bus.stage s.now (.linkCut .lead cs.head? (cs.length + 1) s.link.groups)) ∧
    (∀ cs, s.link.rx = some cs → framing = false → lead = false → cs.length = 1 → 60 < v.toNat →
      ∃ t, exec (.linkCharacter v lead framing) s = .next t ∧ t.link.rx = none ∧
        t.bus = s.bus.stage s.now (.linkCut .length cs.head? 3 s.link.groups)) ∧
    (∀ cs, s.link.rx = some cs → framing = false → lead = false →
      cs = [] ∨ (cs.length = 1 ∧ v.toNat ≤ 60) ∨
        (2 ≤ cs.length ∧ cs.length + 1 < (cs.getD 1 0).toNat + 4 ∧ ¬ EndsGroup (cs ++ [v])) →
      exec (.linkCharacter v lead framing) s = .next (s.afterFill cs v)) ∧
    (∀ (pos : Fin 4) (before : List Byte) (e w0 w1 m0 m1 : Byte),
      s.link.rx = some (before ++ [e, w0, w1, m0, m1]) → framing = false → lead = false →
      before.length = 2 + 6 * pos.val → before.getD 0 0 = kindSetWarning →
      LengthFits kindSetWarning (before.getD 1 0).toNat → 6 * (pos.val + 1) ≤ (before.getD 1 0).toNat →
      (e + w0 + w1 + m0 + m1 + v = 0 → exec (.linkCharacter v lead framing) s =
        exec (.setWarningGroup pos e (w1 ++ w0) (m1 ++ m0)) (s.afterFill (before ++ [e, w0, w1, m0, m1]) v)) ∧
      (e + w0 + w1 + m0 + m1 + v ≠ 0 → exec (.linkCharacter v lead framing) s =
        .next (s.afterFill (before ++ [e, w0, w1, m0, m1]) v)))

/-- The last character of a frame: with a good check LINK_CHARACTER does the work of the frame's own row, and with a
bad one the frame is cut with cause CHECK. The model's choices in it: log 6, log 20. -/
def Obligations.LastCharacterEndsFrame : Prop :=
  ∀ (s : State) (kind : Byte) (body : List Byte) (lo hi : Byte), s.running = true → s.link.brk = none →
    body.length ≤ 60 → s.link.rx = some (kind :: byte body.length :: body ++ [lo]) →
    (wordOf lo hi ≠ check16 (kind :: byte body.length :: body) →
      ∃ t, exec (.linkCharacter hi false false) s = .next t ∧ t.link.rx = none ∧
        t.bus = s.bus.stage s.now (.linkCut .check (some kind) (body.length + 5) s.link.groups)) ∧
    (wordOf lo hi = check16 (kind :: byte body.length :: body) →
      ∃ t, exec (.linkCharacter hi false false) s = .next t ∧ exec (frameRow kind body) s = .next t)

/-- The pause timer's expiry cuts a frame in reception; a break cuts it and stands until the line returns to mark; a
break of 1,000 ms resyncs once: the toggle becomes 0, the buffered frame goes, and the entry in air leaves the air.
LINK_TIMEOUT of a link that is UP loses it: LINK_LOST is staged, FP30 is presented, the entry in air leaves the air, and
the toggle stays. The next whole frame, of any kind, returns the link: LINK_RETURN is staged, FP30's condition goes and
its entry goes straight to HEALTHY. TRANSMIT_FRAME_DONE: the buffered frame begins sending at the bit rate in force, or
nothing is sending. The model's choices in it: log 2, log 20, log 25 (the time a break began is an operand, and one after
the present is taken as the present). -/
def Obligations.LinkTimersBreaksAndTransmitter : Prop :=
  (∀ s : State, s.running = true →
      (∀ cs, s.link.rx = some cs → ∀ d, s.link.pauseDue = some d → d < Config.runEnd →
        ∃ t, exec .pauseExpiry s = .next t ∧ t.now = max s.now d ∧ t.link.rx = none ∧ t.link.pauseDue = none ∧
          t.bus = s.bus.stage t.now (.linkCut .pause cs.head? (cs.length + 1) s.link.groups)) ∧
      (∀ x : Time, s.link.brk = none →
        ∃ t, exec (.linkBreak x) s = .next t ∧ t.link.brk = some ⟨min x s.now, false⟩ ∧ t.link.rx = none ∧
          (s.link.rx = none → SameOutside [.link] s t)) ∧
      (∃ t, exec .linkBreakEnd s = .next t ∧ SameOutside [.link] s t ∧ t.link = { s.link with brk := none }) ∧
      (∀ b : LineBreak, s.link.brk = some b → b.resynced = false → b.start + 1000 < Config.runEnd →
        ∃ t, exec .longBreak s = .next t ∧ t.now = max s.now (b.start + 1000) ∧
          t.link.toggle = false ∧ t.link.buffered = none ∧ t.link.sending = s.link.sending ∧
          t.link.brk = some ⟨b.start, true⟩ ∧ t.link.lost = s.link.lost ∧ t.link.timerDue = s.link.timerDue ∧
          (∀ e ∈ t.queue, e.sent = none) ∧
          t.queue.map (fun e => (e.content, e.cls)) = s.queue.map (fun e => (e.content, e.cls))) ∧
      (∀ b : LineBreak, s.link.brk = some b → b.resynced = true → exec .longBreak s = .next s)) ∧
  (∀ (s : State) (d : Time), s.running = true → s.link.lost = false → s.link.timerDue = some d → d < Config.runEnd →
      ∃ t, exec .linkTimeout s = .next t ∧ t.now = max s.now d ∧ t.link.lost = true ∧ t.link.lostAt = some t.now ∧
        t.link.timerDue = none ∧ t.link.toggle = s.link.toggle ∧ t.link.lastWhole = s.link.lastWhole ∧
        t.flt.present[fpLink] = true ∧ (∀ e ∈ t.queue, e.sent = none) ∧
        ((s.flt.table[fpLink]).state = .healthy → s.flt.present[fpLink] = false → (t.flt.table[fpLink]).state = .faulty) ∧
        Staged s t [.linkLost s.link.lastWhole]) ∧
  (∀ (s : State) (kind : Byte) (body : List Byte), s.running = true → s.link.lost = true →
      ∃ t, exec (frameRow kind body) s = .next t ∧ FrameTaken s t ∧ t.flt.present[fpLink] = false ∧
        (s.flt.present[fpLink] = true → (s.flt.table[fpLink]).state = .faulty → (t.flt.table[fpLink]).state = .healthy ∧
          Staged s t [.linkReturn s.link.lostAt, .faultCleared fpLink .faulty .healthy (s.flt.table[fpLink]).count])) ∧
  (∀ s : State, s.running = true → ∃ t, exec .transmitFrameDone s = .next t ∧ SameOutside [.link] s t ∧
      t.link = { s.link with sending := s.link.buffered.map fun f => ⟨f, s.settings.rate⟩, buffered := none })

/-- POLL with its one-character body: an echo of the toggle with valid set acknowledges the entry in air, which leaves
the queue or, changed since sent, goes to its tail, and the toggle flips; any other POLL acknowledges nothing. Then
the reply is a REPORT of the entry in air, of the entry chosen, or IDLE: after an acknowledgement the choice is made from
the queue that it left, and the REPORT carries the flipped toggle. The model's choices in it: log 23 (REPORT_ACKED carries
the entry's present class, and the class sent is kept with the content sent for the repeat). -/
def Obligations.PollAcknowledgesAndRequests : Prop :=
  ∀ (s : State) (b : Byte), s.running = true → s.link.lost = false →
    (s.queue.filter fun e => e.sent.isSome).length ≤ 1 → s.flt.mode = modeOf s.seq s.flt →
    ∃ t, exec (.poll [b]) s = .next t ∧ FrameTaken s t ∧
      (∀ e ∈ s.queue, ∀ x, e.sent = some x → ¬ (b.getLsbD 1 = true ∧ b.getLsbD 0 = s.link.toggle) →
        t.queue = s.queue ∧ t.link.toggle = s.link.toggle ∧
        Transmitted s t (linkFrame s.settings.address kindReport (reportBody s.link.toggle x))) ∧
      (∀ e ∈ s.queue, ∀ x, e.sent = some x → b.getLsbD 1 = true → b.getLsbD 0 = s.link.toggle →
        t.link.toggle = !s.link.toggle ∧
        (t.queue.map fun e => (e.content, e.cls)) =
          ((s.queue.filter fun e => !e.sent.isSome) ++ if e.changed then [e] else []).map fun e => (e.content, e.cls)) ∧
      (∀ e ∈ s.queue, ∀ x, e.sent = some x → b.getLsbD 1 = true → b.getLsbD 0 = s.link.toggle →
        let left := (s.queue.filter fun e => !e.sent.isSome) ++
          if e.changed then [{ e with sent := none, changed := false }] else []
        (left = [] → t.queue = [] ∧ Transmitted s t (linkFrame s.settings.address kindIdle (idleBody t.seq t.flt))) ∧
        (∀ y, IsChosen left y →
          Transmitted s t (linkFrame s.settings.address kindReport (reportBody (!s.link.toggle) ⟨y.content, y.cls⟩)) ∧
          ∃ y' ∈ t.queue, y'.content = y.content ∧ y'.sent = some ⟨y.content, y.cls⟩ ∧ y'.changed = false) ∧
        Staged s t [.reportAcked e.content.origin e.content.key e.cls e.changed]) ∧
      ((∀ e ∈ s.queue, e.sent = none) → t.link.toggle = s.link.toggle ∧
        (∀ e, IsChosen s.queue e →
          Transmitted s t (linkFrame s.settings.address kindReport (reportBody s.link.toggle ⟨e.content, e.cls⟩)) ∧
          ∃ e' ∈ t.queue, e'.content = e.content ∧ e'.sent = some ⟨e.content, e.cls⟩ ∧ e'.changed = false)) ∧
      (s.queue = [] → t.queue = [] ∧ Transmitted s t (linkFrame s.settings.address kindIdle (idleBody t.seq t.flt)))

/-- ACK_FAULT of the signaller and ACK_ALL: a FAULTY point becomes FAULTY_ACKED and a CLEARED_UNACKED one HEALTHY,
with the count, first-raised time and cause kept; FP30, and a point in another state, is not acknowledged. -/
def Obligations.SignallerAcknowledgesFaults : Prop :=
  ∀ s : State, s.running = true → s.flt.mode = modeOf s.seq s.flt →
    let acked := fun (t : State) (p : Point) =>
      (t.flt.table[p]).count = (s.flt.table[p]).count ∧ (t.flt.table[p]).firstRaised = (s.flt.table[p]).firstRaised ∧
      (t.flt.table[p]).cause = (s.flt.table[p]).cause ∧ (t.flt.table[p]).lastChange = some s.now ∧
      ((s.flt.table[p]).state = .faulty → (t.flt.table[p]).state = .faultyAcked) ∧
      ((s.flt.table[p]).state = .clearedUnacked → (t.flt.table[p]).state = .healthy)
    (∀ p : Point, p ≠ fpLink → (s.flt.table[p]).state = .faulty ∨ (s.flt.table[p]).state = .clearedUnacked →
      ∃ t, exec (.signallerAckFault [byte p.val]) s = .next t ∧ acked t p ∧ Answered s t kindAckFault .accepted ∧
        ∀ x : Point, x ≠ p → x ≠ fpLink → t.flt.table[x] = s.flt.table[x]) ∧
    (∀ p : Point, p = fpLink ∨ (s.flt.table[p]).state = .healthy ∨ (s.flt.table[p]).state = .faultyAcked →
      ∃ t, exec (.signallerAckFault [byte p.val]) s = .next t ∧ Answered s t kindAckFault .refusedState ∧
        ∀ x : Point, x ≠ fpLink → t.flt.table[x] = s.flt.table[x]) ∧
    (∃ t, exec (.ackAll []) s = .next t ∧ Answered s t kindAckAll .accepted ∧
      ∀ p : Point, p ≠ fpLink →
        ((s.flt.table[p]).state = .faulty ∨ (s.flt.table[p]).state = .clearedUnacked → acked t p) ∧
        ((s.flt.table[p]).state = .healthy ∨ (s.flt.table[p]).state = .faultyAcked → t.flt.table[p] = s.flt.table[p]))

/-- RESTORE_SECTION: a DISTURBED section whose bounding heads are ACTIVE becomes RESTORING with count 0, its condition
goes with its entry, event and report, its demand is withdrawn, and each bounding head whose last HALF is set is sent a
CLEAR_HALF; otherwise it is refused and neither sections nor heads change. -/
def Obligations.RestoreSectionStartsRestoring : Prop :=
  ∀ (s : State) (i : Sec), s.running = true →
    let admitted := (s.secs.table[i]).state = .disturbed ∧ ∀ h ∈ boundingHeads i, (s.line.recs[h]).state = .active
    (admitted → ∃ t, exec (.restoreSection [byte (i.val + 1)]) s = .next t ∧
      Answered s t kindRestoreSection .accepted ∧
      t.secs.table = put s.secs.table i ⟨.restoring, 0, false, none⟩ ∧
      t.flt.present[secPoint i] = false ∧ t.seq.demands.get (.section_ i) = none ∧
      PointFollows s t (secPoint i) none ∧
      (∀ h : Head, (t.line.recs[h]) = { s.line.recs[h] with
        clearPending := (s.line.recs[h]).clearPending ||
          ((boundingHeads i).contains h && (s.line.recs[h]).lastHalf) })) ∧
    (¬ admitted → ∃ t, exec (.restoreSection [byte (i.val + 1)]) s = .next t ∧
      Answered s t kindRestoreSection .refusedState ∧ t.secs = s.secs ∧ t.line = s.line ∧ t.seq.demands = s.seq.demands)

/-- The signaller's holds: HOLD_CLOSED raises SIGNALLER_HOLD, RELEASE_HOLD withdraws it, RELEASE_LOCAL withdraws
LOCAL_HOLD; each is accepted in every state and leaves every other demand, and a demand raised in OPEN starts a
closing. WAIVE_CLEARANCE: in CLEARANCE the crossing goes to EXIT_LOWER whatever the detector shows, and on to CLOSED in
the same event with the exit booms DOWN already, where a demand or a min closed time keeps it; in any other state it is
refused and the sequence keeps its state. PERMIT_MAINT sets maintenance permission; WITHDRAW_PERMIT clears it and ends
maintenance; both are always accepted. The model's choices in it: log 12 (the two CROSSING_STATE events on to CLOSED
stand ahead of FP27's FAULT_CLEARED and of MODE, an order that the rules leave open). -/
def Obligations.SignallerHoldsWaiversAndPermits : Prop :=
  (∀ s : State, s.running = true →
      (∃ t, exec (.signallerHoldClosed []) s = .next t ∧ Answered s t kindHoldClosed .accepted ∧
        t.seq.demands.signallerHold = some (s.seq.demands.signallerHold.getD s.now) ∧
        (∀ k, k ≠ .signallerHold → t.seq.demands.get k = s.seq.demands.get k) ∧
        (s.seq.state = .opened → s.seq.demands.signallerHold = none → t.seq.state = .amber ∧
          t.seq.amberDue = some (s.now + s.settings.timers.amber))) ∧
      (∃ t, exec (.signallerReleaseHold []) s = .next t ∧ Answered s t kindReleaseHold .accepted ∧
        t.seq.demands.signallerHold = none ∧ ∀ k, k ≠ .signallerHold → t.seq.demands.get k = s.seq.demands.get k) ∧
      (∃ t, exec (.releaseLocal []) s = .next t ∧ Answered s t kindReleaseLocal .accepted ∧
        t.seq.demands.localHold = none ∧ ∀ k, k ≠ .localHold → t.seq.demands.get k = s.seq.demands.get k)) ∧
  (∀ s : State, s.running = true →
      (s.seq.state = .clearance → ¬ (s.prv.position 1 = .down ∧ s.prv.position 3 = .down) →
        ∃ t, exec (.waiveClearance []) s = .next t ∧ Answered s t kindWaiveClearance .accepted ∧ t.seq.state = .exitLower ∧
          t.seq.settleDue = none ∧ t.seq.clearLimitDue = none ∧ t.flt.present[fpObstructed] = false ∧
          t.seq.exitDue = some (s.now + s.settings.timers.exitLimit)) ∧
      (s.seq.state = .clearance → s.prv.position 1 = .down → s.prv.position 3 = .down →
        s.seq.demands.isEmpty = false ∨ s.settings.timers.minClosed ≠ 0 →
        ∃ t, exec (.waiveClearance []) s = .next t ∧ Answered s t kindWaiveClearance .accepted ∧ PassedExitLower s t) ∧
      (s.seq.state ≠ .clearance → ∃ t, exec (.waiveClearance []) s = .next t ∧
        Answered s t kindWaiveClearance .refusedState ∧ t.seq.state = s.seq.state ∧ t.seq.drives = s.seq.drives ∧
        t.seq.demands = s.seq.demands)) ∧
  (∀ s : State, s.running = true →
      (∃ t, exec (.permitMaint []) s = .next t ∧ Answered s t kindPermitMaint .accepted ∧ t.seq.permission = true ∧
        t.seq.state = s.seq.state ∧ t.seq.demands = s.seq.demands) ∧
      (∃ t, exec (.withdrawPermit []) s = .next t ∧ Answered s t kindWithdrawPermit .accepted ∧ t.seq.permission = false ∧
        t.seq.demands = s.seq.demands ∧ (s.seq.state ≠ .test → t.seq.state = s.seq.state) ∧
        (s.seq.state = .test → t.seq.test = none ∧ t.flt.mode ≠ .maintenance ∧
          ((∃ k, s.seq.demands.get k ≠ none) → t.seq.state = .closed ∨ t.seq.state = .entryLower ∨ t.seq.state = .clearance))))

/-- SET_WARNING_GROUP applies both values of a valid group to its entry alone and marks its position; a rejected group
leaves the table. SET_WARNING of a fitting length answers ACCEPTED when every group was applied, and PARTIAL with the
mask otherwise. -/
def Obligations.SetWarningAppliesValidGroups : Prop :=
  (∀ (s : State) (pos n : Fin 4) (w m : Word), s.running = true →
    let valid := s.settings.timers.amber + s.settings.timers.redWarn + s.settings.timers.entryLimit +
        s.settings.timers.clearSettle + s.settings.timers.exitLimit ≤ 100 * w.toNat ∧ 100 * w.toNat ≤ 120000 ∧
      10000 ≤ 100 * m.toNat ∧ 100 * m.toNat ≤ 300000
    ∃ t, exec (.setWarningGroup pos (byte n.val) w m) s = .next t ∧ SameOutside [.pred, .link] s t ∧
      t.pred.queue = s.pred.queue ∧ t.pred.unit = s.pred.unit ∧
      (valid → t.pred.table = put s.pred.table n ⟨(s.pred.table[n]).distance, 100 * w.toNat, 100 * m.toNat⟩ ∧
        t.link = { s.link with groups := put s.link.groups pos true }) ∧
      (¬ valid → t.pred = s.pred ∧ t.link = { s.link with groups := put s.link.groups pos false })) ∧
  (∀ (s : State) (pos : Fin 4) (e : Byte) (w m : Word), s.running = true → 3 < e.toNat →
    exec (.setWarningGroup pos e w m) s = .next { s with link := { s.link with groups := put s.link.groups pos false } }) ∧
  (∀ (s : State) (body : List Byte) (n : Nat), s.running = true → 1 ≤ n → n ≤ 4 → body.length = 6 * n →
    ∃ t, exec (.setWarning body) s = .next t ∧ FrameTaken s t ∧ t.pred = s.pred ∧
      ((∀ i : Fin 4, i.val < n → s.link.groups[i] = true) → Answered s t kindSetWarning .accepted) ∧
      ((∃ i : Fin 4, i.val < n ∧ s.link.groups[i] = false) →
        Transmitted s t (linkFrame s.settings.address kindAnswer [kindSetWarning, 4, groupsByte s.link.groups])))

/-- STATUS answers ACCEPTED with the status summary of 50 characters in all; a frame of any signaller kind whose length
does not fit its kind, an ACK_FAULT over 31 and a RESTORE_SECTION of 0 or over 6 are answered REFUSED_ARG, and a kind
that is no signaller kind REFUSED_KIND; each is still a whole frame, and changes neither the sections, the heads, the
demands, the permission nor the crossing state, and in a part whose derived state is settled no record and no fault
entry but FP30's. The model's choices in it: log 30 (a refused STATUS carries no summary), log 31
(which LINK_CMD events carry an argument), log 56 (the order of the fault states in a byte of the summary). -/
def Obligations.StatusAndRefusedFrames : Prop :=
  (∀ s : State, s.running = true → ∃ t, exec (.status []) s = .next t ∧ FrameTaken s t ∧
    t.secs = s.secs ∧ t.line = s.line ∧ t.seq.state = s.seq.state ∧ t.seq.demands = s.seq.demands ∧
    (statusSummary t).length = 47 ∧ (statusSummary t).getD 0 0 = byte s.seq.state.code ∧
    (statusSummary t).getD 1 0 = byte t.flt.mode.code ∧
    Transmitted s t (linkFrame s.settings.address kindAnswer ([kindStatus, 0, 0] ++ statusSummary t))) ∧
  (∀ (s : State) (kind : Byte) (body : List Byte), s.running = true → isSignallerKind kind = false →
    ∃ t, exec (.frameRefusedKind kind body) s = .next t ∧ Answered s t kind .refusedKind ∧
      t.secs = s.secs ∧ t.line = s.line ∧ t.seq.state = s.seq.state ∧ t.seq.demands = s.seq.demands) ∧
  (∀ (s : State) (body : List Byte) (c : Instr) (kind : Byte), s.running = true → body ≠ [] →
    (c, kind) ∈ [(.ackAll body, kindAckAll), (.signallerHoldClosed body, kindHoldClosed),
      (.signallerReleaseHold body, kindReleaseHold), (.releaseLocal body, kindReleaseLocal),
      (.waiveClearance body, kindWaiveClearance), (.permitMaint body, kindPermitMaint),
      (.withdrawPermit body, kindWithdrawPermit), (.status body, kindStatus)] →
    ∃ t, exec c s = .next t ∧ Answered s t kind .refusedArg ∧
      t.secs = s.secs ∧ t.line = s.line ∧ t.seq.state = s.seq.state ∧ t.seq.demands = s.seq.demands ∧
      t.seq.permission = s.seq.permission) ∧
  (∀ (s : State) (kind : Byte) (body : List Byte), s.running = true → isSignallerKind kind = true →
    ¬ LengthFits kind body.length ∨
      (∃ b, body = [b] ∧ (kind = kindAckFault ∧ 31 < b.toNat ∨ kind = kindRestoreSection ∧ (b.toNat = 0 ∨ 6 < b.toNat))) →
    ∃ t, exec (frameRow kind body) s = .next t ∧ Answered s t kind .refusedArg ∧
      t.secs = s.secs ∧ t.line = s.line ∧ t.pred = s.pred ∧ t.seq.state = s.seq.state ∧ t.seq.demands = s.seq.demands ∧
      t.seq.permission = s.seq.permission ∧
      (Settled s → t.trk = s.trk ∧ ∀ p : Point, p ≠ fpLink → t.flt.table[p] = s.flt.table[p]) ∧
      (kind ≠ kindPoll → s.link.lost = false → Settled s →
        Staged s t [.linkCmd kind
          (if (kind = kindAckFault ∨ kind = kindRestoreSection) ∧ body.length = 1 then body.head? else none) .refusedArg
          (if kind = kindSetWarning then s.link.groups else Vector.replicate 4 false)]))

/-! ## Host accesses -/

/-- A read that touches IMAGE offset 0 takes a snapshot: the serial rises by one, from 65,535 to 1, the image as it
stands is copied, and the read is answered with the new serial; every other IMAGE read is answered from the snapshot,
or with zeros while it is invalid. Neither claims the port. SNAPSHOT and HOST_READ do the same work (log 6). The
model's choices in it: log 32; in the layout of the image that is copied, log 16, 23, 33, 38, 39, 40, 50, 55, 57 and
58. -/
def Obligations.ImageReadsAnswerFromSnapshot : Prop :=
  ∀ (s : State) (addr : Addr) (word : Bool) (w : Window) (c : Instr), HostReady s →
    windowAt s.bus.windows addr.toNat = some w → w.kind = .image → (word = true → addr.getLsbD 0 = false) →
    c = .snapshot addr word ∨ c = .hostRead addr word →
    (addr.toNat = w.first → ∃ t, exec c s = .next t ∧ SameOutside [.bus, .img] s t ∧
      t.img.serial = (if s.img.serial = 65535 then 1 else s.img.serial + 1) ∧
      t.img.snapshot = some (imageBytes { s with bus := { s.bus with answer := none }, img := { s.img with serial := t.img.serial } }) ∧
      t.bus = { s.bus with answer := some (.complete
        (if word then BitVec.ofNat 16 t.img.serial else BitVec.ofNat 16 (t.img.serial % 256))) }) ∧
    (addr.toNat ≠ w.first → ∃ t, exec c s = .next t ∧ SameOutside [.bus] s t ∧
      (s.img.snapshot = none → t.bus = { s.bus with answer := some (.complete 0) }) ∧
      (∀ l, s.img.snapshot = some l → t.bus = { s.bus with answer := some (.complete
        ((if word then l.getD (addr.toNat - w.first + 1) 0 else 0) ++ l.getD (addr.toNat - w.first) 0)) }))

/-- An access outside windows, a read of any window but IMAGE, and a GUARDED write in MAINTENANCE are passed to memory
with their address, size and data; a word at an odd address that touches a window, a write of IMAGE and a GUARDED
write in any other mode are refused with their cause. In the COMMAND window a byte write of a trigger is refused with
BYTE, a write of an argument is passed to update its shadow, and the rest is passed; a whole-word write of a trigger is
the row of its kind, and of a kind that names no command it is refused with BAD_KIND. In the EVENT_RING window and the
OUTBOX header a byte write is refused with BYTE and a word that is not the host's index with READ_ONLY; the host's index
is the index row, and the OUTBOX body is passed. In STARTING every access is held undecided, and a host access that comes
while another is in hand is not taken (log 8). The model's choices in it: log 41. -/
def Obligations.HostAccessesHeldPassedOrRefused : Prop :=
  (∀ (s : State) (addr : Addr) (word : Bool) (data : Word), HostReady s →
      (windowAt s.bus.windows addr.toNat = none →
        (word = true → addr.getLsbD 0 = true → windowAt s.bus.windows (addr + 1).toNat = none) →
        (∃ t, exec (.hostRead addr word) s = .next t ∧ SameOutside [.bus] s t ∧ Passed t ⟨addr, false, word, 0⟩ .none) ∧
        (∃ t, exec (.hostWrite addr word data) s = .next t ∧ SameOutside [.bus] s t ∧
          Passed t ⟨addr, true, word, data⟩ .none)) ∧
      (∀ w, windowAt s.bus.windows addr.toNat = some w → (word = true → addr.getLsbD 0 = false) →
        (w.kind ≠ .image → ∃ t, exec (.hostRead addr word) s = .next t ∧ SameOutside [.bus] s t ∧
          Passed t ⟨addr, false, word, 0⟩ .none) ∧
        (w.kind = .guarded → s.flt.mode = .maintenance → ∃ t, exec (.hostWrite addr word data) s = .next t ∧
          SameOutside [.bus] s t ∧ Passed t ⟨addr, true, word, data⟩ .none) ∧
        (w.kind = .guarded → s.flt.mode ≠ .maintenance → exec (.hostWrite addr word data) s =
          .next (s.afterDenial ⟨addr, true, word, data⟩ (some .guarded) (addr.toNat - w.first) .notMaintenance)) ∧
        (w.kind = .image → exec (.hostWrite addr word data) s =
          .next (s.afterDenial ⟨addr, true, word, data⟩ (some .image) (addr.toNat - w.first) .readOnly))) ∧
      (∀ w, windowAt s.bus.windows addr.toNat = some w → addr.getLsbD 0 = true →
        exec (.hostWrite addr true data) s =
          .next (s.afterDenial ⟨addr, true, true, data⟩ (some w.kind) (addr.toNat - w.first) .alignment) ∧
        exec (.hostRead addr true) s = .next { s with bus := { s.bus with answer := some .fault } }) ∧
      (windowAt s.bus.windows addr.toNat = none → ∀ w, windowAt s.bus.windows (addr + 1).toNat = some w →
        addr.getLsbD 0 = true →
        exec (.hostWrite addr true data) s = .next (s.afterDenial ⟨addr, true, true, data⟩ none 0 .alignment) ∧
        exec (.hostRead addr true) s = .next { s with bus := { s.bus with answer := some .fault } })) ∧
  (∀ (s : State) (addr : Addr) (word : Bool) (data : Word) (w : Window), HostReady s →
      windowAt s.bus.windows addr.toNat = some w → (word = true → addr.getLsbD 0 = false) →
      let off := addr.toNat - w.first
      let a : HostAccess := ⟨addr, true, word, data⟩
      let passed := fun e => ∃ t, exec (.hostWrite addr word data) s = .next t ∧ SameOutside [.bus] s t ∧
        t.bus.ring = s.bus.ring ∧ t.bus.outbox = s.bus.outbox ∧ Passed t a e
      let denied := fun c => exec (.hostWrite addr word data) s = .next (s.afterDenial a (some w.kind) off c)
      (w.kind = .command → ∀ i : Slot, off / 32 = i.val →
        (off % 32 < 2 → word = false → denied .byte) ∧
        (2 ≤ off % 32 → off % 32 < 6 →
          passed (.argument i (decide (4 ≤ off % 32)) (if word then none else some (addr.getLsbD 0)))) ∧
        (6 ≤ off % 32 → passed .none)) ∧
      (w.kind = .eventRing → (word = false → denied .byte) ∧ (word = true → off ≠ 2 → denied .readOnly) ∧
        (word = true → off = 2 → exec (.hostWrite addr word data) s = exec (.ringConsumerWrite addr data) s)) ∧
      (w.kind = .outbox → (4 ≤ off → passed .none) ∧ (off < 4 → word = false → denied .byte) ∧
        (word = true → off = 2 → denied .readOnly) ∧
        (word = true → off = 0 → exec (.hostWrite addr word data) s = exec (.outboxProducerWrite addr data) s))) ∧
  (∀ (s : State) (addr : Addr) (i : Slot) (tag kind : Byte), HostReady s → AtTrigger s addr i →
      (kind.toNat = 0 ∨ 8 < kind.toNat →
        exec (.hostWrite addr true (tag ++ kind)) s = .next (s.afterRefusal i kind.toNat tag .badKind)) ∧
      ∀ c, (kind, c) ∈ [((1 : Byte), Instr.holdClosed addr tag), (2, .releaseHold addr tag), (3, .haltRestart addr tag),
          (4, .ackFault addr tag), (5, .enterMaint addr tag), (6, .leaveMaint addr tag), (7, .testOutput addr tag),
          (8, .reloadSettings addr tag)] →
        exec (.hostWrite addr true (tag ++ kind)) s = exec c s) ∧
  (∀ (s : State) (addr : Addr) (word : Bool) (data : Word), s.running = true →
      (s.seq.state = .starting → s.bus.up = none →
        exec (.hostRead addr word) s = .next { s with bus := { s.bus with
          answer := none, up := some ⟨⟨addr, false, word, 0⟩, .held, .none⟩ } } ∧
        exec (.hostWrite addr word data) s = .next { s with bus := { s.bus with
          answer := none, up := some ⟨⟨addr, true, word, data⟩, .held, .none⟩ } }) ∧
      (s.bus.up.isSome = true → exec (.hostRead addr word) s = .next s ∧ exec (.hostWrite addr word data) s = .next s))

/-- The consumer index of the event ring: a whole word that lies in ring order from C to P is passed and will be taken
at its completion; any other value is refused with CHECK. The producer index of the outbox: a whole word whose advance
does not exceed the free count is passed and will be taken at its completion; any other value is refused with
CHECK. -/
def Obligations.IndexWritesChecked : Prop :=
  (∀ (s : State) (addr : Addr) (v : Word) (w : Window), HostReady s → windowAt s.bus.windows addr.toNat = some w →
      w.kind = .eventRing → addr.toNat = w.first + 2 →
      let cap := (256 * w.units - 16) / 16
      let ok := v.toNat < cap ∧
        (v.toNat + cap - s.bus.ring.consumer) % cap ≤ (s.bus.ring.producer + cap - s.bus.ring.consumer) % cap
      (ok → ∃ t, exec (.ringConsumerWrite addr v) s = .next t ∧ SameOutside [.bus] s t ∧ t.bus.ring = s.bus.ring ∧
        Passed t ⟨addr, true, true, v⟩ (.ringConsumer w v.toNat)) ∧
      (¬ ok → exec (.ringConsumerWrite addr v) s =
        .next (s.afterDenial ⟨addr, true, true, v⟩ (some .eventRing) 2 .check))) ∧
  (∀ (s : State) (addr : Addr) (v : Word) (w : Window), HostReady s → windowAt s.bus.windows addr.toNat = some w →
      w.kind = .outbox → addr.toNat = w.first →
      let cap := (256 * w.units - 32) / 32
      let ok := v.toNat < cap ∧ (v.toNat + cap - s.bus.outbox.shadow) % cap ≤
        cap - 1 - (s.bus.outbox.shadow + cap - s.bus.outbox.consumer) % cap
      (ok → ∃ t, exec (.outboxProducerWrite addr v) s = .next t ∧ SameOutside [.bus] s t ∧ t.bus.outbox = s.bus.outbox ∧
        Passed t ⟨addr, true, true, v⟩ (.outboxProducer w v.toNat)) ∧
      (¬ ok → exec (.outboxProducerWrite addr v) s =
        .next (s.afterDenial ⟨addr, true, true, v⟩ (some .outbox) 0 .check)))

/-- UPSTREAM_ACCESS_COMPLETE answers the granted access with what memory returned and updates what it writes: an
argument shadow, whole or by the byte written, or a checked index whose window is still in force. The model's choices in
it: log 32. -/
def Obligations.CompletionAnswersAndUpdatesShadows : Prop :=
  ∀ (s : State) (data : Word) (u : Upstream), s.running = true → s.bus.up = some u → u.phase = .granted →
    (s.bus.port.map (·.who)) = some .upstream →
    ∃ t, exec (.upstreamAccessComplete data) s = .next t ∧ SameOutside [.bus, .cmd] s t ∧ t.bus.up = none ∧
      t.bus.answer = some (.complete (if u.acc.write then 0 else if u.acc.word then data else (0 : Byte) ++ loByte data)) ∧
      (u.effect = .none → t.cmd = s.cmd ∧ t.bus.ring.consumer = s.bus.ring.consumer ∧
        t.bus.outbox.shadow = s.bus.outbox.shadow) ∧
      (∀ i isB, u.effect = .argument i isB none → t.cmd = put s.cmd i
        (if isB then { s.cmd[i] with argB := u.acc.data } else { s.cmd[i] with argA := u.acc.data })) ∧
      (∀ i isB high, u.effect = .argument i isB (some high) →
        let old := if isB then (s.cmd[i]).argB else (s.cmd[i]).argA
        let new : Word := if high then loByte u.acc.data ++ loByte old else hiByte old ++ loByte u.acc.data
        t.cmd = put s.cmd i (if isB then { s.cmd[i] with argB := new } else { s.cmd[i] with argA := new })) ∧
      (∀ w v, u.effect = .ringConsumer w v →
        t.bus.ring.consumer = if windowOf s.bus.windows .eventRing = some w then v else s.bus.ring.consumer) ∧
      (∀ w v, u.effect = .outboxProducer w v →
        t.bus.outbox.shadow = if windowOf s.bus.windows .outbox = some w then v else s.bus.outbox.shadow)

/-- PORT_GRANT: a busy port grants nothing; a free one grants the first due claim in internal order, else the upstream
access, whose grant raises every waiting claim's count, else the first internal claim. The model's choices in it: log
10. -/
def Obligations.PortGrantFollowsClaims : Prop :=
  ∀ s : State, s.running = true →
    let due := fun (c : Option Claim) => ∃ x, c = some x ∧ 4 ≤ x.wait
    let noneDue := ¬ due s.bus.ringClaim ∧ ¬ due s.bus.loaderClaim ∧ ¬ due s.bus.outboxClaim
    let noUp := ∀ u, s.bus.up = some u → u.phase ≠ .waiting
    (s.bus.port.isSome = true → exec .portGrant s = .next s) ∧
    (s.bus.port = none → ∃ t, exec .portGrant s = .next t ∧ SameOutside [.bus] s t ∧
      (∀ c, s.bus.ringClaim = some c → 4 ≤ c.wait → t.bus.port = some ⟨.ring, c.acc⟩ ∧ t.bus.ringClaim = none) ∧
      (∀ c, s.bus.loaderClaim = some c → 4 ≤ c.wait → ¬ due s.bus.ringClaim →
        t.bus.port = some ⟨.loader, c.acc⟩ ∧ t.bus.loaderClaim = none) ∧
      (∀ c, s.bus.outboxClaim = some c → 4 ≤ c.wait → ¬ due s.bus.ringClaim → ¬ due s.bus.loaderClaim →
        t.bus.port = some ⟨.outbox, c.acc⟩ ∧ t.bus.outboxClaim = none) ∧
      (∀ u, s.bus.up = some u → u.phase = .waiting → noneDue →
        t.bus.port.map (·.who) = some .upstream ∧ t.bus.up = some { u with phase := .granted } ∧
        t.bus.ringClaim = s.bus.ringClaim.map (fun c => { c with wait := c.wait + 1 }) ∧
        t.bus.loaderClaim = s.bus.loaderClaim.map (fun c => { c with wait := c.wait + 1 }) ∧
        t.bus.outboxClaim = s.bus.outboxClaim.map (fun c => { c with wait := c.wait + 1 })) ∧
      (noUp → ∀ c, s.bus.ringClaim = some c → noneDue → t.bus.port = some ⟨.ring, c.acc⟩) ∧
      (noUp → ∀ c, s.bus.loaderClaim = some c → noneDue → s.bus.ringClaim = none → t.bus.port = some ⟨.loader, c.acc⟩) ∧
      (noUp → ∀ c, s.bus.outboxClaim = some c → noneDue → s.bus.ringClaim = none → s.bus.loaderClaim = none →
        t.bus.port = some ⟨.outbox, c.acc⟩))

/-! ## Host commands -/

/-- The host's holds: HOLD_CLOSED outside TEST raises LOCAL_HOLD and in TEST is refused with WRONG_STATE; RELEASE_HOLD
withdraws LOCAL_HOLD and is always admitted. Every other demand stays. RELOAD_SETTINGS in TEST with no load in flight
begins a reload, whose first read is claimed; outside TEST it is refused with WRONG_STATE, and with a load in flight
with BUSY. -/
def Obligations.HostHoldsAndReloads : Prop :=
  (∀ (s : State) (addr : Addr) (i : Slot) (tag : Byte), HostReady s → AtTrigger s addr i →
      (s.seq.state ≠ .test → ∃ t, exec (.holdClosed addr tag) s = .next t ∧ Admitted s t addr i 1 tag ∧
        t.seq.demands.localHold = some (s.seq.demands.localHold.getD s.now) ∧
        ∀ k, k ≠ .localHold → t.seq.demands.get k = s.seq.demands.get k) ∧
      (s.seq.state = .test → exec (.holdClosed addr tag) s = .next (s.afterRefusal i 1 tag .wrongState)) ∧
      (∃ t, exec (.releaseHold addr tag) s = .next t ∧ Admitted s t addr i 2 tag ∧ t.seq.demands.localHold = none ∧
        ∀ k, k ≠ .localHold → t.seq.demands.get k = s.seq.demands.get k)) ∧
  (∀ (s : State) (addr : Addr) (i : Slot) (tag : Byte), HostReady s → AtTrigger s addr i →
      (s.seq.state = .test → s.ldr.load = none → ∃ t, exec (.reloadSettings addr tag) s = .next t ∧
        Admitted s t addr i 8 tag ∧ t.ldr = { s.ldr with load := some ⟨.reload, [], false⟩ } ∧
        Claims t.bus .loader ⟨0xFFE00, false, 2, []⟩) ∧
      (s.seq.state ≠ .test → exec (.reloadSettings addr tag) s = .next (s.afterRefusal i 8 tag .wrongState)) ∧
      (s.seq.state = .test → s.ldr.load.isSome = true →
        exec (.reloadSettings addr tag) s = .next (s.afterRefusal i 8 tag .busy)))

/-- HALT_RESTART names T1 or T2: the side-B-most STOPPED record on that halt approach has restart requested and its
RECORD demand stands; without one the command is refused with WRONG_STATE, and any other argument with BAD_ARG. -/
def Obligations.HaltRestartRequestsRestart : Prop :=
  ∀ (s : State) (addr : Addr) (i : Slot) (tag : Byte), HostReady s → AtTrigger s addr i →
    let waits := fun (j : Slot) => ∃ r, s.trk.recs[j] = some r ∧ r.status = .stopped ∧ isHalt r.approachSide = true
    (∀ k : Track, (s.cmd[i]).argA = (match k with | .t1 => 1 | .t2 => 2) →
      (∀ before j after, s.trk.order k = before ++ j :: after → waits j → (∀ x ∈ after, ¬ waits x) →
        ∃ t, exec (.haltRestart addr tag) s = .next t ∧ Admitted s t addr i 3 tag ∧ ∃ r', t.trk.recs[j] = some r' ∧
          r'.restartReq = true ∧ r'.status = .stopped ∧ (t.seq.demands.get (.record j)).isSome = true) ∧
      ((∀ j ∈ s.trk.order k, ¬ waits j) →
        exec (.haltRestart addr tag) s = .next (s.afterRefusal i 3 tag .wrongState))) ∧
    ((s.cmd[i]).argA ≠ 1 → (s.cmd[i]).argA ≠ 2 →
      exec (.haltRestart addr tag) s = .next (s.afterRefusal i 3 tag .badArg))

/-- The host's ACK_FAULT of a point that the snapshot shows as it stands acknowledges it; a point that is not
acknowledgeable is refused with WRONG_STATE, one that the snapshot does not show so with NOT_SEEN, and an argument
over 31 with BAD_ARG. -/
def Obligations.HostAcknowledgesWhatItHasSeen : Prop :=
  ∀ (s : State) (addr : Addr) (i : Slot) (tag : Byte), HostReady s → AtTrigger s addr i →
    (∀ p : Point, (s.cmd[i]).argA.toNat = p.val → p ≠ fpLink →
      (s.flt.table[p]).state = .faulty ∨ (s.flt.table[p]).state = .clearedUnacked →
      (∀ l, s.img.snapshot = some l →
        let shown := (l.getD (16 + 9 * p.val) 0).toNat % 4 = (s.flt.table[p]).state.code ∧
          l.getD (16 + 9 * p.val + 1) 0 = byte (s.flt.table[p]).count
        (shown → ∃ t, exec (.ackFault addr tag) s = .next t ∧ Admitted s t addr i 4 tag ∧
          (t.flt.table[p]).state = (if (s.flt.table[p]).state = .faulty then .faultyAcked else .healthy) ∧
          (t.flt.table[p]).count = (s.flt.table[p]).count ∧ (t.flt.table[p]).lastChange = some s.now) ∧
        (¬ shown → exec (.ackFault addr tag) s = .next (s.afterRefusal i 4 tag .notSeen))) ∧
      (s.img.snapshot = none → exec (.ackFault addr tag) s = .next (s.afterRefusal i 4 tag .notSeen))) ∧
    (∀ p : Point, (s.cmd[i]).argA.toNat = p.val →
      p = fpLink ∨ (s.flt.table[p]).state = .healthy ∨ (s.flt.table[p]).state = .faultyAcked →
      exec (.ackFault addr tag) s = .next (s.afterRefusal i 4 tag .wrongState)) ∧
    (31 < (s.cmd[i]).argA.toNat → exec (.ackFault addr tag) s = .next (s.afterRefusal i 4 tag .badArg))

/-- ENTER_MAINT enters TEST from OPEN with no record, every section CLEAR, permission set and the battery not low, and
the mode becomes MAINTENANCE; LEAVE_MAINT in TEST ends maintenance; each refusal carries its reason. -/
def Obligations.MaintenanceIsEnteredAndLeft : Prop :=
  ∀ (s : State) (addr : Addr) (i : Slot) (tag : Byte), HostReady s → AtTrigger s addr i →
    let quiet := s.seq.state = .opened ∧ (∀ j : Slot, s.trk.recs[j] = none) ∧ ∀ x : Sec, (s.secs.table[x]).state = .clear
    (quiet → s.seq.permission = true → s.prv.settled batteryContact = false →
      ∃ t, exec (.enterMaint addr tag) s = .next t ∧ Admitted s t addr i 5 tag ∧ t.seq.state = .test ∧
        t.flt.mode = .maintenance ∧ t.seq.drives = s.seq.drives ∧ t.seq.demands = s.seq.demands ∧
        (∀ x : Fin 6, t.seq.lamps[x.val]'(by omega) = s.seq.lamps[x.val]'(by omega)) ∧
        ∃ y, t.seq.test = some y ∧ (∀ b : Boom, y.booms[b] = (s.seq.drives[b]).target) ∧ y.audible = s.seq.audible) ∧
    (¬ quiet → exec (.enterMaint addr tag) s = .next (s.afterRefusal i 5 tag .wrongState)) ∧
    (quiet → s.seq.permission = false ∨ s.prv.settled batteryContact = true →
      exec (.enterMaint addr tag) s = .next (s.afterRefusal i 5 tag .notPermitted)) ∧
    (s.seq.state = .test → ∃ t, exec (.leaveMaint addr tag) s = .next t ∧ Admitted s t addr i 6 tag ∧
      t.seq.test = none ∧ (∀ b : Boom, t.seq.testDue[b] = none) ∧ t.flt.mode ≠ .maintenance ∧
      (s.seq.demands.isEmpty = true → t.seq.state = .raising ∨ t.seq.state = .opened) ∧
      (s.seq.demands.isEmpty = true → ∀ b : Boom, (t.seq.drives[b]).target = .raise)) ∧
    (s.seq.state ≠ .test → exec (.leaveMaint addr tag) s = .next (s.afterRefusal i 6 tag .wrongState))

/-- TEST_OUTPUT in TEST replaces the named item's test setting and its output follows: a lamp's or audible's command,
a boom's target, whose change starts its test travel limit; outside TEST it is refused with WRONG_STATE, and an item
or setting outside the codes with BAD_ARG in any state. The model's choices in it: log 21. -/
def Obligations.TestOutputDrivesItem : Prop :=
  ∀ (s : State) (addr : Addr) (i : Slot) (tag : Byte), HostReady s → AtTrigger s addr i →
    let a := (s.cmd[i]).argA.toNat
    let b := (s.cmd[i]).argB.toNat
    (s.seq.state = .test → ∀ y, s.seq.test = some y → ∀ (x : Fin 6) (c : LampCmd), a = x.val →
      (b = 0 ∧ c = .dark ∨ b = 1 ∧ c = .lit ∨ b = 2 ∧ c = .flash ∧ (a = 1 ∨ a = 2 ∨ a = 4 ∨ a = 5)) →
      ∃ t, exec (.testOutput addr tag) s = .next t ∧ Admitted s t addr i 7 tag ∧ t.seq.state = .test ∧
        t.seq.lamps[x.val]'(by omega) = c ∧ t.seq.test = some { y with lamps := put y.lamps x c } ∧
        t.seq.drives = s.seq.drives) ∧
    (s.seq.state = .test → ∀ y, s.seq.test = some y → ∀ (x : Fin 2) (on : Bool), a = 6 + x.val →
      (b = 0 ∧ on = false ∨ b = 1 ∧ on = true) →
      ∃ t, exec (.testOutput addr tag) s = .next t ∧ Admitted s t addr i 7 tag ∧
        t.seq.audible = put s.seq.audible x on ∧ t.seq.test = some { y with audible := put y.audible x on }) ∧
    (s.seq.state = .test → ∀ y, s.seq.test = some y → ∀ (x : Boom) (c : Target), a = 8 + x.val →
      (b = 0 ∧ c = .raise ∨ b = 1 ∧ c = .lower) →
      ∃ t, exec (.testOutput addr tag) s = .next t ∧ Admitted s t addr i 7 tag ∧ t.seq.state = .test ∧
        (t.seq.drives[x]).target = c ∧ t.seq.test = some { y with booms := put y.booms x c } ∧
        (∀ z : Boom, z ≠ x → t.seq.drives[z] = s.seq.drives[z]) ∧
        t.seq.testDue[x] = (if (s.seq.drives[x]).target = c then none else some (s.now +
          (match c with
            | .raise => s.settings.timers.raiseLimit
            | .lower => if x = 0 ∨ x = 2 then s.settings.timers.entryLimit else s.settings.timers.exitLimit)))) ∧
    (12 ≤ a ∨ (a < 6 ∧ 3 ≤ b) ∨ ((a = 0 ∨ a = 3) ∧ b = 2) ∨ (6 ≤ a ∧ 2 ≤ b) →
      exec (.testOutput addr tag) s = .next (s.afterRefusal i 7 tag .badArg)) ∧
    (s.seq.state ≠ .test → a < 12 → b < 2 → exec (.testOutput addr tag) s = .next (s.afterRefusal i 7 tag .wrongState))

/-! ## The event ring, the outbox and the setting block -/

/-- An event that is staged joins the staging queue when nothing is missed and a place is free; with no place it is
dropped and counted, the missed count ending at 65,535; with events missed and two places free it joins behind a GAP
that gives their number. RING_WRITE_START of an IDLE writer with an event staged and space in the ring: the state
becomes RECORD and the oldest event's sixteen bytes are claimed for slot P; a full ring, an empty queue or another state
starts nothing. The completions of the writer's accesses: after the record write it is INDEX and claims P plus one for
the producer word; after the producer write P takes that value, the written event has left the staging queue, and the
next record write is claimed if an event and space are left; after each of the first two header writes the next is
claimed (consumer 0, then producer 0), and after the third the writer is IDLE or starts on the staged events. A
completion that an apply has discarded advances nothing, and the first header write, of the capacity, is claimed. The
model's choices in it: log 10. -/
def Obligations.RingWriterWritesStagedEvents : Prop :=
  (∀ (b : Bus) (now : Time) (e : EventBody),
      let r := (b.stage now e).ring
      (b.ring.missed = 0 → b.ring.staging.length < 32 → r.staging = b.ring.staging ++ [⟨now, e⟩] ∧ r.missed = 0) ∧
      (b.ring.missed = 0 → ¬ b.ring.staging.length < 32 → r.staging = b.ring.staging ∧ r.missed = 1) ∧
      (b.ring.missed ≠ 0 → b.ring.staging.length + 2 ≤ 32 →
        r.staging = b.ring.staging ++ [⟨now, .gap b.ring.missed now⟩, ⟨now, e⟩] ∧ r.missed = 0) ∧
      (b.ring.missed ≠ 0 → ¬ b.ring.staging.length + 2 ≤ 32 →
        r.staging = b.ring.staging ∧ r.missed = if b.ring.missed < 65535 then b.ring.missed + 1 else 65535) ∧
      r.producer = b.ring.producer ∧ r.consumer = b.ring.consumer) ∧
  (∀ (s : State) (w : Window), s.running = true → windowOf s.bus.windows .eventRing = some w →
      let cap := (256 * w.units - 16) / 16
      let space := (s.bus.ring.producer + cap - s.bus.ring.consumer) % cap + 1 < cap
      (∀ e es, s.bus.ring.staging = e :: es → s.bus.ring.state = .idle → space →
        ∃ t, exec .ringWriteStart s = .next t ∧ SameOutside [.bus] s t ∧
          t.bus.ring = { s.bus.ring with state := .record } ∧
          ((∃ c, t.bus.ringClaim = some c ∧ c.acc = ⟨256 * w.base + 16 + 16 * s.bus.ring.producer, true, 16, e.record⟩) ∨
            t.bus.port = some ⟨.ring, ⟨256 * w.base + 16 + 16 * s.bus.ring.producer, true, 16, e.record⟩⟩)) ∧
      (s.bus.ring.staging = [] ∨ s.bus.ring.state ≠ .idle ∨ ¬ space → exec .ringWriteStart s = .next s)) ∧
  (∀ (s : State) (w : Window), s.running = true → windowOf s.bus.windows .eventRing = some w →
      s.bus.port.map (·.who) = some .ring → s.bus.ringClaim = none →
      let cap := (256 * w.units - 16) / 16
      (s.bus.ring.discard = false → s.bus.ring.state = .record →
        ∃ t, exec .ringRecordWriteComplete s = .next t ∧ SameOutside [.bus] s t ∧
          t.bus.ring = { s.bus.ring with state := .index } ∧
          Claims t.bus .ring ⟨256 * w.base, true, 2, bytes2 ((s.bus.ring.producer + 1) % cap)⟩) ∧
      (s.bus.ring.discard = false → s.bus.ring.state = .index →
        ∃ t, exec .ringProducerWriteComplete s = .next t ∧ SameOutside [.bus] s t ∧
          t.bus.ring.producer = (s.bus.ring.producer + 1) % cap ∧ t.bus.ring.consumer = s.bus.ring.consumer ∧
          t.bus.ring.staging = s.bus.ring.staging.tail ∧ t.bus.ring.missed = s.bus.ring.missed ∧
          (t.bus.ring.state = .idle ∨ t.bus.ring.state = .record) ∧
          (∀ e es, s.bus.ring.staging.tail = e :: es →
            ((s.bus.ring.producer + 1) % cap + cap - s.bus.ring.consumer) % cap + 1 < cap → t.bus.ring.state = .record ∧
            Claims t.bus .ring ⟨256 * w.base + 16 + 16 * ((s.bus.ring.producer + 1) % cap), true, 16, e.record⟩)) ∧
      (s.bus.ring.discard = false → s.bus.ring.state = .header →
        ∃ t, exec .ringHeaderWriteComplete s = .next t ∧ SameOutside [.bus] s t ∧
          t.bus.ring.producer = s.bus.ring.producer ∧ t.bus.ring.staging = s.bus.ring.staging ∧
          (s.bus.ring.header < 2 → t.bus.ring.state = .header ∧ t.bus.ring.header = s.bus.ring.header + 1) ∧
          (s.bus.ring.header = 0 → Claims t.bus .ring ⟨256 * w.base + 2, true, 2, [0, 0]⟩) ∧
          (s.bus.ring.header = 1 → Claims t.bus .ring ⟨256 * w.base, true, 2, [0, 0]⟩) ∧
          (¬ s.bus.ring.header < 2 → t.bus.ring.header = 0 ∧ (t.bus.ring.state = .idle ∨ t.bus.ring.state = .record))) ∧
      (s.bus.ring.discard = true → ∀ c ∈ [Instr.ringRecordWriteComplete, .ringProducerWriteComplete, .ringHeaderWriteComplete],
        ∃ t, exec c s = .next t ∧ SameOutside [.bus] s t ∧
          t.bus.ring = { s.bus.ring with discard := false, header := 0 } ∧
          Claims t.bus .ring ⟨256 * w.base + 4, true, 2, bytes2 cap⟩))

/-- The outbox: a fetch starts with records outstanding and fewer than four HOST entries queued; a valid record joins
the report queue with its class, a bad one is discarded and OUTBOX_BAD is staged with the record's ring index, its
reference and its reason (class before length), and either way the consumer index advances and its write is claimed;
after that write the Reader is IDLE or fetches again. A fetch or a consumer write that an apply has discarded advances
nothing at its completion and takes no record, and the consumer write is claimed. The model's choices in it: log 10, log
24. -/
def Obligations.OutboxRecordsFetchedAndTaken : Prop :=
  ∀ (s : State) (w : Window), s.running = true → windowOf s.bus.windows .outbox = some w →
    let cap := (256 * w.units - 32) / 32
    (s.bus.outbox.state = .idle → s.bus.outbox.shadow ≠ s.bus.outbox.consumer → hostEntries s.queue < 4 →
      ∃ t, exec .outboxFetchStart s = .next t ∧ SameOutside [.bus] s t ∧
        t.bus.outbox = { s.bus.outbox with state := .fetching } ∧
        ((∃ c, t.bus.outboxClaim = some c ∧ c.acc = ⟨256 * w.base + 32 + 32 * s.bus.outbox.consumer, false, 32, []⟩) ∨
          t.bus.port = some ⟨.outbox, ⟨256 * w.base + 32 + 32 * s.bus.outbox.consumer, false, 32, []⟩⟩)) ∧
    (∀ rec : List Byte, s.bus.port.map (·.who) = some .outbox → s.bus.outbox.discard = false →
      s.bus.outbox.state = .fetching → s.bus.outboxClaim = none → rec.length = 32 →
      ∃ t, exec (.outboxFetchComplete rec) s = .next t ∧ SameOutside [.queue, .bus] s t ∧
        t.bus.outbox = { s.bus.outbox with consumer := (s.bus.outbox.consumer + 1) % cap, state := .writing } ∧
        let len := (rec.getD 1 0).toNat
        let class_ := rec.getD 0 0
        let content := Content.host (rec.getD 3 0 ++ rec.getD 2 0) ((rec.drop 4).take len) s.bus.outbox.consumer s.now
        (class_ = 1 → 1 ≤ len ∧ len ≤ 24 → t.queue = s.queue ++ [⟨content, .alert, none, false⟩]) ∧
        (class_ = 2 → 1 ≤ len ∧ len ≤ 24 → t.queue = s.queue ++ [⟨content, .info, none, false⟩]) ∧
        ((class_ ≠ 1 ∧ class_ ≠ 2) ∨ ¬ (1 ≤ len ∧ len ≤ 24) → t.queue = s.queue) ∧
        Claims t.bus .outbox ⟨256 * w.base + 2, true, 2, bytes2 ((s.bus.outbox.consumer + 1) % cap)⟩ ∧
        (class_ = 1 ∨ class_ = 2 → 1 ≤ len ∧ len ≤ 24 → t.bus.ring = s.bus.ring) ∧
        (class_ ≠ 1 ∧ class_ ≠ 2 → t.bus.ring =
          (s.bus.stage s.now (.outboxBad s.bus.outbox.consumer (rec.getD 3 0 ++ rec.getD 2 0) false)).ring) ∧
        (class_ = 1 ∨ class_ = 2 → ¬ (1 ≤ len ∧ len ≤ 24) → t.bus.ring =
          (s.bus.stage s.now (.outboxBad s.bus.outbox.consumer (rec.getD 3 0 ++ rec.getD 2 0) true)).ring)) ∧
    (s.bus.port.map (·.who) = some .outbox → s.bus.outbox.discard = false → s.bus.outbox.state = .writing →
      ∃ t, exec .outboxConsumerWriteComplete s = .next t ∧ SameOutside [.bus] s t ∧
        t.bus.outbox.consumer = s.bus.outbox.consumer ∧ t.bus.outbox.shadow = s.bus.outbox.shadow ∧
        t.bus.outbox.state =
          if s.bus.outbox.shadow ≠ s.bus.outbox.consumer ∧ hostEntries s.queue < 4 then .fetching else .idle) ∧
    (s.bus.port.map (·.who) = some .outbox → s.bus.outbox.discard = true → s.bus.outboxClaim = none →
      ∀ (c : Instr) (rec : List Byte), c = .outboxFetchComplete rec ∨ c = .outboxConsumerWriteComplete →
      ∃ t, exec c s = .next t ∧ SameOutside [.bus] s t ∧ t.bus.ring = s.bus.ring ∧
        t.bus.outbox = { s.bus.outbox with discard := false } ∧
        Claims t.bus .outbox ⟨256 * w.base + 2, true, 2, bytes2 s.bus.outbox.consumer⟩)

/-- SETTING_WORD_READ_COMPLETE before the last word keeps the word and claims the next word of the block; both rows
take the word that the port returned (log 6). RETRY_EXPIRY with no load in flight begins a retry: the timer stops and
the first word is claimed; with a load in flight nothing happens. LOAD_COMPLETION, the read of a load's last word, ends
the load: a valid block counts as valid and its settings, warning table and windows come into force, unless it is that
of an overtaken reload; an invalid one counts as invalid with its reason and changes none of them. The model's choices
in it: log 2, log 11, log 22. -/
def Obligations.LoadsReadWordsAndRetry : Prop :=
  (∀ (s : State) (l : Load) (data : Word), s.running = true → s.bus.port.map (·.who) = some .loader →
      s.bus.loaderClaim = none → s.ldr.load = some l → ¬ WholeLoad (l.words ++ [data]) →
      ∃ t, exec (.settingWordReadComplete data) s = .next t ∧ exec (.loadCompletion data) s = .next t ∧
        SameOutside [.bus, .ldr] s t ∧ t.ldr = { s.ldr with load := some { l with words := l.words ++ [data] } } ∧
        ((∃ c, t.bus.loaderClaim = some c ∧ c.acc = ⟨0xFFE00 + 2 * (l.words.length + 1), false, 2, []⟩) ∨
          t.bus.port = some ⟨.loader, ⟨0xFFE00 + 2 * (l.words.length + 1), false, 2, []⟩⟩)) ∧
  (∀ (s : State) (l : Load) (data : Word), s.running = true → s.bus.port.map (·.who) = some .loader →
      s.ldr.load = some l → WholeLoad (l.words ++ [data]) →
      ∃ t, exec (.loadCompletion data) s = .next t ∧ exec (.settingWordReadComplete data) s = .next t ∧ t.now = s.now ∧
        t.ldr.load = none ∧
        (∀ v, judgeBlock (l.words ++ [data]) = .ok v → t.ldr.valid = s.ldr.valid + 1 ∧ t.ldr.invalid = s.ldr.invalid ∧
          (l.kind ≠ .reload ∨ l.overtaken = false →
            t.settings = v.settings ∧ t.pred.table = v.table ∧ t.bus.windows = v.windows) ∧
          (l.kind = .reload → l.overtaken = true →
            t.settings = s.settings ∧ t.pred.table = s.pred.table ∧ t.bus.windows = s.bus.windows)) ∧
        (∀ r, judgeBlock (l.words ++ [data]) = .error r → t.ldr.valid = s.ldr.valid ∧ t.ldr.invalid = s.ldr.invalid + 1 ∧
          t.ldr.lastBad = some r ∧ t.settings = s.settings ∧ t.pred.table = s.pred.table ∧
          t.bus.windows = s.bus.windows)) ∧
  (∀ (s : State) (d : Time), s.running = true → s.ldr.retryDue = some d → d < Config.runEnd →
      (s.ldr.load = none → ∃ t, exec .retryExpiry s = .next t ∧ t.now = max s.now d ∧ SameOutside [.now, .bus, .ldr] s t ∧
        t.ldr = { s.ldr with retryDue := none, load := some ⟨.retry, [], false⟩ } ∧
        Claims t.bus .loader ⟨0xFFE00, false, 2, []⟩ ∧ t.bus.windows = s.bus.windows) ∧
      (s.ldr.load.isSome = true → exec .retryExpiry s = .next s))

/-- LOAD_COMPLETION: a valid first load, retry or reload that is not overtaken applies every value of the block together
and ends FP31; an invalid first load keeps the values, presents FP31 and starts the retry timer; an invalid retry starts
the timer again; an overtaken or invalid reload applies nothing. The first load ends STARTING: in START_CLOSE, or in
CLOSED with every boom DOWN already, where a demand or a min closed time keeps it; and the upstream access held through
STARTING is then decided by the window table that the load leaves: refused, passed to memory, admitted as a command, or
answered from the snapshot, which a read of IMAGE offset 0 takes then. A block is judged by the seven tests of R183 in
order, and the first that fails gives the reason. An apply starts the event ring and the outbox afresh where their
windows change, their first writes claimed, and cuts a frame in reception at a change of the bit rate; it leaves them
where nothing changes. The events of each outcome are staged, and FP31's entry, event and report follow its condition;
its event is staged unless the staging queue is full. The clause on how a load ends is of the part as STARTING keeps it
through the first load: no window, snapshot, argument value or LOCAL_HOLD yet, as `BoundsAndHeadsKept` states.
The model's choices in it: log 6, log 22, log 48 (LINK_CUT right after SETTINGS_LOADED), log 32 (the upper half of a
byte read). -/
def Obligations.LoadCompletionTakesOutcome : Prop :=
  (∀ ws : List Word,
    (∀ r, judgeBlock ws = .error r ↔ ¬ BlockPasses ws r ∧ ∀ q : BadBlock, q.code < r.code → BlockPasses ws q) ∧
    ((∀ r, BlockPasses ws r) → ∃ v, judgeBlock ws = .ok v ∧ ValuesOf ws v)) ∧
  (∀ (s : State) (l : Load) (data : Word) (v : BlockValues), s.running = true →
    s.bus.port.map (·.who) = some .loader → s.ldr.load = some l → WholeLoad (l.words ++ [data]) →
    judgeBlock (l.words ++ [data]) = .ok v → l.kind ≠ .reload ∨ l.overtaken = false →
    ∃ t, exec (.loadCompletion data) s = .next t ∧ Staged s t [.settingsLoaded l.kind] ∧
      (windowOf s.bus.windows .eventRing = windowOf v.windows .eventRing →
        t.bus.ring.producer = s.bus.ring.producer ∧ t.bus.ring.consumer = s.bus.ring.consumer) ∧
      (windowOf s.bus.windows .outbox = windowOf v.windows .outbox → t.bus.outbox = s.bus.outbox) ∧
      (∀ w, windowOf v.windows .eventRing = some w → windowOf s.bus.windows .eventRing ≠ some w →
        t.bus.ring.producer = 0 ∧ t.bus.ring.consumer = 0 ∧ t.bus.ring.state = .header ∧ t.bus.ring.header = 0 ∧
        Claims t.bus .ring ⟨256 * w.base + 4, true, 2, bytes2 ((256 * w.units - 16) / 16)⟩) ∧
      (∀ w, windowOf v.windows .outbox = some w → windowOf s.bus.windows .outbox ≠ some w →
        t.bus.outbox = ⟨0, 0, .writing, false⟩ ∧ Claims t.bus .outbox ⟨256 * w.base + 2, true, 2, [0, 0]⟩) ∧
      (v.settings.rate = s.settings.rate ∨ s.link.rx = none → t.link = s.link) ∧
      (v.settings.rate ≠ s.settings.rate → ∀ cs, s.link.rx = some cs → t.link.rx = none ∧ t.link.pauseDue = none ∧
        t.link.toggle = s.link.toggle ∧ t.link.sending = s.link.sending ∧ t.link.buffered = s.link.buffered ∧
        Staged s t [.settingsLoaded l.kind, .linkCut .rate cs.head? (cs.length + 1) s.link.groups])) ∧
  (∀ (s : State) (l : Load) (data : Word), s.running = true → s.bus.port.map (·.who) = some .loader →
    s.ldr.load = some l → WholeLoad (l.words ++ [data]) → StartingUntouched s →
    ∃ t, exec (.loadCompletion data) s = .next t ∧ t.now = s.now ∧
      (∀ v, judgeBlock (l.words ++ [data]) = .ok v →
        t.ldr.valid = s.ldr.valid + 1 ∧ t.ldr.invalid = s.ldr.invalid ∧
        (l.kind ≠ .reload ∨ l.overtaken = false → t.settings = v.settings ∧ t.pred.table = v.table ∧
          t.bus.windows = v.windows ∧ t.ldr.fromBlock = true ∧ t.ldr.retryDue = none ∧ t.flt.present[fpSettings] = false) ∧
        (l.kind = .reload → l.overtaken = true → t.settings = s.settings ∧ t.pred = s.pred ∧
          t.bus.windows = s.bus.windows)) ∧
      (∀ r, judgeBlock (l.words ++ [data]) = .error r →
        t.ldr.valid = s.ldr.valid ∧ t.ldr.invalid = s.ldr.invalid + 1 ∧ t.ldr.lastBad = some r ∧
        t.settings = s.settings ∧ t.pred = s.pred ∧ t.bus.windows = s.bus.windows ∧
        (l.kind = .first → t.flt.present[fpSettings] = true ∧ t.ldr.retryDue = some (s.now + 10000)) ∧
        (l.kind = .retry → t.ldr.retryDue = some (s.now + 10000) ∧ t.flt.present = s.flt.present) ∧
        (l.kind = .reload → t.ldr.retryDue = s.ldr.retryDue ∧ t.flt.present = s.flt.present) ∧
        (l.kind = .first ∨ (l.kind = .reload ∧ l.overtaken = false) → Staged s t [.settingsInvalid r])) ∧
      (l.kind = .reload → l.overtaken = true → Staged s t [.reloadDiscarded]) ∧
      PointFollows s t fpSettings none ∧
      (l.kind ≠ .first → t.ldr.load = none ∧ t.seq.state = s.seq.state) ∧
      (l.kind = .first → t.ldr.load = none ∧
        (¬ (∀ b : Boom, s.prv.position b = .down) →
          t.seq.state = .startClose ∧ t.seq.entryDue = some (t.now + t.settings.timers.entryLimit)) ∧
        ((∀ b : Boom, s.prv.position b = .down) → s.seq.demands.isEmpty = false ∨ t.settings.timers.minClosed ≠ 0 →
          t.seq.state = .closed ∧ t.seq.entryDue = none ∧ t.seq.minClosedDue =
            if t.settings.timers.minClosed = 0 then none else some (t.now + t.settings.timers.minClosed))) ∧
      (l.kind = .first → ∀ u, s.bus.up = some u → u.phase = .held → s.bus.answer = none → HeldDecided s t u.acc))

/-! ## Invariants -/

/-- Every invariant below holds at reset. -/
def Obligations.InvariantsHoldAtReset : Prop :=
  ClockOk State.reset ∧ StagingOk State.reset ∧ RequestsOk State.reset ∧ WindowsOk State.reset ∧ SettingsOk State.reset ∧
  OpenUndemanded State.reset ∧ PausesHeld State.reset ∧ Settled State.reset ∧ HeadsServe State.reset ∧
  CountsAgree State.reset ∧ ReportsFit State.reset ∧ HeadsReported State.reset ∧ StartingUntouched State.reset

/-- Every step keeps crossing time below the end of a run, and the staging queue within its 32 places. Every step
keeps the request queue within four requests, one for a slot. Every step keeps the bounding heads of a counting
section ACTIVE or MISSING. Every step keeps each head's fault condition present exactly while the head is FAILED. Every
step keeps the part as STARTING guarantees it, in reset and while the first load is in flight: STARTING, no window, no
access more than held, no snapshot, argument shadows of 0, LOCAL_HOLD not standing. -/
def Obligations.BoundsAndHeadsKept : Prop :=
  (∀ s t : State, ClockOk s → StagingOk s → step s = .next t → ClockOk t ∧ StagingOk t) ∧
  (∀ s t : State, RequestsOk s → step s = .next t → RequestsOk t) ∧
  (∀ s t : State, HeadsServe s → step s = .next t → HeadsServe t) ∧
  (∀ s t : State, HeadsReported s → step s = .next t → HeadsReported t) ∧
  (∀ s t : State, StartingUntouched s → step s = .next t → StartingUntouched t)

/-- Every step keeps the settings in their ranges, the warning table valid against the timers in force, and the window
table empty or legal. -/
def Obligations.AppliedSettingsKept : Prop :=
  ∀ s t : State, SettingsOk s → WindowsOk s → step s = .next t → SettingsOk t ∧ WindowsOk t

/-- Every step keeps the crossing OPEN or RAISING only while no demand stands. -/
def Obligations.OpenOnlyWithoutDemand : Prop :=
  ∀ s t : State, OpenUndemanded s → step s = .next t → OpenUndemanded t

/-- Every step keeps a drive in HOLD exactly while its reversal pause runs. No command but a reset of the part takes a
drive between RAISE and LOWER without HOLD. -/
def Obligations.PausesKeptAndNoDirectReversal : Prop :=
  (∀ s t : State, PausesHeld s → step s = .next t → PausesHeld t) ∧
  (∀ (c : Instr) (s t : State), PausesHeld s → c ≠ .partReset → c ≠ .runEndReset → exec c s = .next t → NoDirectReversal s t)

/-- Every step keeps closure proven, the mode, the driver's indicators and proceed shown in agreement with what they
are derived from. -/
def Obligations.DerivedStateKept : Prop :=
  ∀ s t : State, Settled s → step s = .next t → Settled t

/-- Every step keeps the section counts and the approach list in agreement. -/
def Obligations.CountsAgreeKept : Prop :=
  ∀ s t : State, CountsAgree s → step s = .next t → CountsAgree t

/-- Every step keeps the report queue within its allotments, with at most one entry in air. -/
def Obligations.ReportQueueKept : Prop :=
  ∀ s t : State, ReportsFit s → step s = .next t → ReportsFit t

end Statements
end

