-- ==== Sys2Proof/Laws/Bus.lean ====
section
/-! SUPPORT. What the operations of the downstream port and of event staging can do: the fields each keeps, the claim a
claimant is left with, and the events a stage adds. -/

namespace Sys2Proof.Machine

/-! ## The port -/

theorem Bus.grantInternal_frame (b : Bus) (w : Claimant) :
    (b.grantInternal w).windows = b.windows ∧ (b.grantInternal w).up = b.up ∧ (b.grantInternal w).answer = b.answer ∧
    (b.grantInternal w).ring = b.ring ∧ (b.grantInternal w).outbox = b.outbox := by
  cases w <;> simp only [Bus.grantInternal] <;> split <;> simp [Bus.setClaim]

@[simp] theorem Bus.grant_frame (b : Bus) :
    b.grant.windows = b.windows ∧ b.grant.answer = b.answer ∧ b.grant.ring = b.ring ∧ b.grant.outbox = b.outbox := by
  simp only [Bus.grant]
  repeat' split
  all_goals simp [Bus.grantInternal_frame, Bus.grantUpstream]

@[simp] theorem Bus.setClaim_frame (b : Bus) (w : Claimant) (c : Option Claim) :
    (b.setClaim w c).windows = b.windows ∧ (b.setClaim w c).up = b.up ∧ (b.setClaim w c).answer = b.answer ∧
    (b.setClaim w c).port = b.port ∧ (b.setClaim w c).ring = b.ring ∧ (b.setClaim w c).outbox = b.outbox := by
  cases w <;> simp [Bus.setClaim]

@[simp] theorem Bus.claim_frame (b : Bus) (w : Claimant) (a : MemAccess) :
    (b.claim w a).windows = b.windows ∧ (b.claim w a).answer = b.answer ∧ (b.claim w a).ring = b.ring ∧
    (b.claim w a).outbox = b.outbox := by
  simp [Bus.claim]

@[simp] theorem Bus.release_frame (b : Bus) :
    b.release.windows = b.windows ∧ b.release.answer = b.answer ∧ b.release.ring = b.ring ∧ b.release.outbox = b.outbox := by
  simp [Bus.release]

theorem Bus.claimOf_setClaim (b : Bus) (w v : Claimant) (c : Option Claim) (h : w ≠ .upstream) :
    (b.setClaim w c).claimOf v = if v = w then c else b.claimOf v := by
  cases w <;> cases v <;> simp_all [Bus.setClaim, Bus.claimOf]

/-- A grant of the port to an internal claimant leaves every claimant its access. -/
theorem Bus.grantInternal_claims (b : Bus) (v w : Claimant) (a : MemAccess) (free : b.port = none) (h : Claims b w a) :
    Claims (b.grantInternal v) w a := by
  obtain ⟨c, hc, rfl⟩ := h.resolve_right (by simp [free])
  cases v <;> cases w <;> simp only [Bus.grantInternal, Bus.claimOf] at hc ⊢ <;> (try split) <;>
    simp_all [Claims, Bus.claimOf, Bus.setClaim]

theorem Bus.grantUpstream_claims (b : Bus) (u : Upstream) (w : Claimant) (a : MemAccess) (free : b.port = none)
    (h : Claims b w a) : Claims (b.grantUpstream u) w a := by
  obtain ⟨c, hc, rfl⟩ := h.resolve_right (by simp [free])
  cases w <;> simp_all [Claims, Bus.claimOf, Bus.grantUpstream, bumpClaim]

/-- A grant leaves every claimant its access: still claimed, or on the port. -/
theorem Bus.grant_claims (b : Bus) (w : Claimant) (a : MemAccess) (h : Claims b w a) : Claims b.grant w a := by
  simp only [Bus.grant]
  split
  · exact h
  · rename_i free
    have free : b.port = none := by simpa using free
    repeat' split
    all_goals first
      | exact Bus.grantInternal_claims _ _ _ _ free h
      | exact Bus.grantUpstream_claims _ _ _ _ free h
      | exact h

/-- A claimant that claims has its access claimed or on the port after it. -/
theorem Bus.claim_claims (b : Bus) (w : Claimant) (a : MemAccess) (h : w ≠ .upstream) : Claims (b.claim w a) w a :=
  Bus.grant_claims _ w a (Or.inl ⟨⟨a, 0⟩, by rw [Bus.claimOf_setClaim _ _ _ _ h, if_pos rfl], rfl⟩)

/-! ## Event staging -/

@[simp] theorem Bus.ringStart_frame (b : Bus) :
    b.ringStart.windows = b.windows ∧ b.ringStart.answer = b.answer ∧ b.ringStart.outbox = b.outbox ∧
    b.ringStart.ring.staging = b.ring.staging ∧ b.ringStart.ring.missed = b.ring.missed ∧
    b.ringStart.ring.producer = b.ring.producer ∧ b.ringStart.ring.consumer = b.ring.consumer ∧
    b.ringStart.ring.header = b.ring.header ∧ b.ringStart.ring.discard = b.ring.discard := by
  simp only [Bus.ringStart]
  repeat' split
  all_goals simp

@[simp] theorem Ring.arrive_frame (r : Ring) (now : Time) (e : EventBody) :
    (r.arrive now e).producer = r.producer ∧ (r.arrive now e).consumer = r.consumer ∧ (r.arrive now e).state = r.state ∧
    (r.arrive now e).header = r.header ∧ (r.arrive now e).discard = r.discard := by
  simp only [Ring.arrive]
  repeat' split
  all_goals simp

/-- With nothing missed and a free place, an event joins at the tail. -/
theorem Ring.arrive_of_room (r : Ring) (now : Time) (e : EventBody) (missed : r.missed = 0)
    (room : r.staging.length < Config.stagingCapacity) : r.arrive now e = { r with staging := r.staging ++ [⟨now, e⟩] } := by
  simp [Ring.arrive, missed, room]

/-- Staging keeps the window table, the host's answer, the outbox and both ring indices. -/
@[simp] theorem Bus.stage_frame (b : Bus) (now : Time) (e : EventBody) :
    (b.stage now e).windows = b.windows ∧ (b.stage now e).answer = b.answer ∧ (b.stage now e).outbox = b.outbox ∧
    (b.stage now e).ring.staging = (b.ring.arrive now e).staging ∧
    (b.stage now e).ring.missed = (b.ring.arrive now e).missed ∧
    (b.stage now e).ring.producer = b.ring.producer ∧ (b.stage now e).ring.consumer = b.ring.consumer ∧
    (b.stage now e).ring.header = b.ring.header ∧ (b.stage now e).ring.discard = b.ring.discard := by
  simp [Bus.stage]

/-- With nothing missed and a free place, the event is the last one staged, and nothing is missed. -/
theorem Bus.stage_of_room (b : Bus) (now : Time) (e : EventBody) (missed : b.ring.missed = 0)
    (room : b.ring.staging.length < Config.stagingCapacity) :
    (b.stage now e).ring.staging = b.ring.staging ++ [⟨now, e⟩] ∧ (b.stage now e).ring.missed = 0 := by
  simp [Ring.arrive_of_room _ _ _ missed room, missed]

end Sys2Proof.Machine
end

