-- ==== Sys2Proof/Laws/State.lean ====
section
/-! SUPPORT. The fields of `State` and of `Ctx` under each plain update: one lemma for each update, read off by simp. -/

namespace Sys2Proof.Machine

@[simp] theorem Ctx.modSeq_fields (c : Ctx) (f : Sequence → Sequence) :
    (c.modSeq f).s.pending = c.s.pending ∧ (c.modSeq f).s.running = c.s.running ∧ (c.modSeq f).s.now = c.s.now ∧
    (c.modSeq f).s.settings = c.s.settings ∧ (c.modSeq f).s.line = c.s.line ∧ (c.modSeq f).s.secs = c.s.secs ∧
    (c.modSeq f).s.trk = c.s.trk ∧ (c.modSeq f).s.pred = c.s.pred ∧ (c.modSeq f).s.seq = f c.s.seq ∧
    (c.modSeq f).s.prv = c.s.prv ∧ (c.modSeq f).s.flt = c.s.flt ∧ (c.modSeq f).s.queue = c.s.queue ∧
    (c.modSeq f).s.link = c.s.link ∧ (c.modSeq f).s.bus = c.s.bus ∧ (c.modSeq f).s.cmd = c.s.cmd ∧
    (c.modSeq f).s.img = c.s.img ∧ (c.modSeq f).s.ldr = c.s.ldr ∧ (c.modSeq f).notices = c.notices ∧
    (c.modSeq f).demands = c.demands ∧ (c.modSeq f).exit = c.exit ∧ (c.modSeq f).openClosed = c.openClosed ∧
    (c.modSeq f).modeChanged = c.modeChanged ∧ (c.modSeq f).enteredFailed = c.enteredFailed ∧
    (c.modSeq f).leftMaint = c.leftMaint ∧ (c.modSeq f).trains = c.trains :=
  ⟨rfl, rfl, rfl, rfl, rfl, rfl, rfl, rfl, rfl, rfl, rfl, rfl, rfl, rfl, rfl, rfl, rfl, rfl, rfl, rfl, rfl, rfl, rfl, rfl, rfl⟩

@[simp] theorem Ctx.modPrv_fields (c : Ctx) (f : Proving → Proving) :
    (c.modPrv f).s.pending = c.s.pending ∧ (c.modPrv f).s.running = c.s.running ∧ (c.modPrv f).s.now = c.s.now ∧
    (c.modPrv f).s.settings = c.s.settings ∧ (c.modPrv f).s.line = c.s.line ∧ (c.modPrv f).s.secs = c.s.secs ∧
    (c.modPrv f).s.trk = c.s.trk ∧ (c.modPrv f).s.pred = c.s.pred ∧ (c.modPrv f).s.seq = c.s.seq ∧
    (c.modPrv f).s.prv = f c.s.prv ∧ (c.modPrv f).s.flt = c.s.flt ∧ (c.modPrv f).s.queue = c.s.queue ∧
    (c.modPrv f).s.link = c.s.link ∧ (c.modPrv f).s.bus = c.s.bus ∧ (c.modPrv f).s.cmd = c.s.cmd ∧
    (c.modPrv f).s.img = c.s.img ∧ (c.modPrv f).s.ldr = c.s.ldr ∧ (c.modPrv f).notices = c.notices ∧
    (c.modPrv f).demands = c.demands ∧ (c.modPrv f).exit = c.exit ∧ (c.modPrv f).openClosed = c.openClosed ∧
    (c.modPrv f).modeChanged = c.modeChanged ∧ (c.modPrv f).enteredFailed = c.enteredFailed ∧
    (c.modPrv f).leftMaint = c.leftMaint ∧ (c.modPrv f).trains = c.trains :=
  ⟨rfl, rfl, rfl, rfl, rfl, rfl, rfl, rfl, rfl, rfl, rfl, rfl, rfl, rfl, rfl, rfl, rfl, rfl, rfl, rfl, rfl, rfl, rfl, rfl, rfl⟩

@[simp] theorem Ctx.modFlt_fields (c : Ctx) (f : Faults → Faults) :
    (c.modFlt f).s.pending = c.s.pending ∧ (c.modFlt f).s.running = c.s.running ∧ (c.modFlt f).s.now = c.s.now ∧
    (c.modFlt f).s.settings = c.s.settings ∧ (c.modFlt f).s.line = c.s.line ∧ (c.modFlt f).s.secs = c.s.secs ∧
    (c.modFlt f).s.trk = c.s.trk ∧ (c.modFlt f).s.pred = c.s.pred ∧ (c.modFlt f).s.seq = c.s.seq ∧
    (c.modFlt f).s.prv = c.s.prv ∧ (c.modFlt f).s.flt = f c.s.flt ∧ (c.modFlt f).s.queue = c.s.queue ∧
    (c.modFlt f).s.link = c.s.link ∧ (c.modFlt f).s.bus = c.s.bus ∧ (c.modFlt f).s.cmd = c.s.cmd ∧
    (c.modFlt f).s.img = c.s.img ∧ (c.modFlt f).s.ldr = c.s.ldr ∧ (c.modFlt f).notices = c.notices ∧
    (c.modFlt f).demands = c.demands ∧ (c.modFlt f).exit = c.exit ∧ (c.modFlt f).openClosed = c.openClosed ∧
    (c.modFlt f).modeChanged = c.modeChanged ∧ (c.modFlt f).enteredFailed = c.enteredFailed ∧
    (c.modFlt f).leftMaint = c.leftMaint ∧ (c.modFlt f).trains = c.trains :=
  ⟨rfl, rfl, rfl, rfl, rfl, rfl, rfl, rfl, rfl, rfl, rfl, rfl, rfl, rfl, rfl, rfl, rfl, rfl, rfl, rfl, rfl, rfl, rfl, rfl, rfl⟩

@[simp] theorem Ctx.modTrk_fields (c : Ctx) (f : Tracker → Tracker) :
    (c.modTrk f).s.pending = c.s.pending ∧ (c.modTrk f).s.running = c.s.running ∧ (c.modTrk f).s.now = c.s.now ∧
    (c.modTrk f).s.settings = c.s.settings ∧ (c.modTrk f).s.line = c.s.line ∧ (c.modTrk f).s.secs = c.s.secs ∧
    (c.modTrk f).s.trk = f c.s.trk ∧ (c.modTrk f).s.pred = c.s.pred ∧ (c.modTrk f).s.seq = c.s.seq ∧
    (c.modTrk f).s.prv = c.s.prv ∧ (c.modTrk f).s.flt = c.s.flt ∧ (c.modTrk f).s.queue = c.s.queue ∧
    (c.modTrk f).s.link = c.s.link ∧ (c.modTrk f).s.bus = c.s.bus ∧ (c.modTrk f).s.cmd = c.s.cmd ∧
    (c.modTrk f).s.img = c.s.img ∧ (c.modTrk f).s.ldr = c.s.ldr ∧ (c.modTrk f).notices = c.notices ∧
    (c.modTrk f).demands = c.demands ∧ (c.modTrk f).exit = c.exit ∧ (c.modTrk f).openClosed = c.openClosed ∧
    (c.modTrk f).modeChanged = c.modeChanged ∧ (c.modTrk f).enteredFailed = c.enteredFailed ∧
    (c.modTrk f).leftMaint = c.leftMaint ∧ (c.modTrk f).trains = c.trains :=
  ⟨rfl, rfl, rfl, rfl, rfl, rfl, rfl, rfl, rfl, rfl, rfl, rfl, rfl, rfl, rfl, rfl, rfl, rfl, rfl, rfl, rfl, rfl, rfl, rfl, rfl⟩

@[simp] theorem Ctx.modQueue_fields (c : Ctx) (f : List Entry → List Entry) :
    (c.modQueue f).s.pending = c.s.pending ∧ (c.modQueue f).s.running = c.s.running ∧ (c.modQueue f).s.now = c.s.now ∧
    (c.modQueue f).s.settings = c.s.settings ∧ (c.modQueue f).s.line = c.s.line ∧ (c.modQueue f).s.secs = c.s.secs ∧
    (c.modQueue f).s.trk = c.s.trk ∧ (c.modQueue f).s.pred = c.s.pred ∧ (c.modQueue f).s.seq = c.s.seq ∧
    (c.modQueue f).s.prv = c.s.prv ∧ (c.modQueue f).s.flt = c.s.flt ∧ (c.modQueue f).s.queue = f c.s.queue ∧
    (c.modQueue f).s.link = c.s.link ∧ (c.modQueue f).s.bus = c.s.bus ∧ (c.modQueue f).s.cmd = c.s.cmd ∧
    (c.modQueue f).s.img = c.s.img ∧ (c.modQueue f).s.ldr = c.s.ldr ∧ (c.modQueue f).notices = c.notices ∧
    (c.modQueue f).demands = c.demands ∧ (c.modQueue f).exit = c.exit ∧ (c.modQueue f).openClosed = c.openClosed ∧
    (c.modQueue f).modeChanged = c.modeChanged ∧ (c.modQueue f).enteredFailed = c.enteredFailed ∧
    (c.modQueue f).leftMaint = c.leftMaint ∧ (c.modQueue f).trains = c.trains :=
  ⟨rfl, rfl, rfl, rfl, rfl, rfl, rfl, rfl, rfl, rfl, rfl, rfl, rfl, rfl, rfl, rfl, rfl, rfl, rfl, rfl, rfl, rfl, rfl, rfl, rfl⟩

@[simp] theorem Ctx.modPred_fields (c : Ctx) (f : Predictor → Predictor) :
    (c.modPred f).s.pending = c.s.pending ∧ (c.modPred f).s.running = c.s.running ∧ (c.modPred f).s.now = c.s.now ∧
    (c.modPred f).s.settings = c.s.settings ∧ (c.modPred f).s.line = c.s.line ∧ (c.modPred f).s.secs = c.s.secs ∧
    (c.modPred f).s.trk = c.s.trk ∧ (c.modPred f).s.pred = f c.s.pred ∧ (c.modPred f).s.seq = c.s.seq ∧
    (c.modPred f).s.prv = c.s.prv ∧ (c.modPred f).s.flt = c.s.flt ∧ (c.modPred f).s.queue = c.s.queue ∧
    (c.modPred f).s.link = c.s.link ∧ (c.modPred f).s.bus = c.s.bus ∧ (c.modPred f).s.cmd = c.s.cmd ∧
    (c.modPred f).s.img = c.s.img ∧ (c.modPred f).s.ldr = c.s.ldr ∧ (c.modPred f).notices = c.notices ∧
    (c.modPred f).demands = c.demands ∧ (c.modPred f).exit = c.exit ∧ (c.modPred f).openClosed = c.openClosed ∧
    (c.modPred f).modeChanged = c.modeChanged ∧ (c.modPred f).enteredFailed = c.enteredFailed ∧
    (c.modPred f).leftMaint = c.leftMaint ∧ (c.modPred f).trains = c.trains :=
  ⟨rfl, rfl, rfl, rfl, rfl, rfl, rfl, rfl, rfl, rfl, rfl, rfl, rfl, rfl, rfl, rfl, rfl, rfl, rfl, rfl, rfl, rfl, rfl, rfl, rfl⟩

@[simp] theorem Ctx.modLink_fields (c : Ctx) (f : Link → Link) :
    (c.modLink f).s.pending = c.s.pending ∧ (c.modLink f).s.running = c.s.running ∧ (c.modLink f).s.now = c.s.now ∧
    (c.modLink f).s.settings = c.s.settings ∧ (c.modLink f).s.line = c.s.line ∧ (c.modLink f).s.secs = c.s.secs ∧
    (c.modLink f).s.trk = c.s.trk ∧ (c.modLink f).s.pred = c.s.pred ∧ (c.modLink f).s.seq = c.s.seq ∧
    (c.modLink f).s.prv = c.s.prv ∧ (c.modLink f).s.flt = c.s.flt ∧ (c.modLink f).s.queue = c.s.queue ∧
    (c.modLink f).s.link = f c.s.link ∧ (c.modLink f).s.bus = c.s.bus ∧ (c.modLink f).s.cmd = c.s.cmd ∧
    (c.modLink f).s.img = c.s.img ∧ (c.modLink f).s.ldr = c.s.ldr ∧ (c.modLink f).notices = c.notices ∧
    (c.modLink f).demands = c.demands ∧ (c.modLink f).exit = c.exit ∧ (c.modLink f).openClosed = c.openClosed ∧
    (c.modLink f).modeChanged = c.modeChanged ∧ (c.modLink f).enteredFailed = c.enteredFailed ∧
    (c.modLink f).leftMaint = c.leftMaint ∧ (c.modLink f).trains = c.trains :=
  ⟨rfl, rfl, rfl, rfl, rfl, rfl, rfl, rfl, rfl, rfl, rfl, rfl, rfl, rfl, rfl, rfl, rfl, rfl, rfl, rfl, rfl, rfl, rfl, rfl, rfl⟩

@[simp] theorem Ctx.stage_fields (c : Ctx) (e : EventBody) :
    (c.stage e).s.pending = c.s.pending ∧ (c.stage e).s.running = c.s.running ∧ (c.stage e).s.now = c.s.now ∧
    (c.stage e).s.settings = c.s.settings ∧ (c.stage e).s.line = c.s.line ∧ (c.stage e).s.secs = c.s.secs ∧
    (c.stage e).s.trk = c.s.trk ∧ (c.stage e).s.pred = c.s.pred ∧ (c.stage e).s.seq = c.s.seq ∧
    (c.stage e).s.prv = c.s.prv ∧ (c.stage e).s.flt = c.s.flt ∧ (c.stage e).s.queue = c.s.queue ∧
    (c.stage e).s.link = c.s.link ∧ (c.stage e).s.bus = c.s.bus.stage c.s.now e ∧ (c.stage e).s.cmd = c.s.cmd ∧
    (c.stage e).s.img = c.s.img ∧ (c.stage e).s.ldr = c.s.ldr ∧ (c.stage e).notices = c.notices ∧
    (c.stage e).demands = c.demands ∧ (c.stage e).exit = c.exit ∧ (c.stage e).openClosed = c.openClosed ∧
    (c.stage e).modeChanged = c.modeChanged ∧ (c.stage e).enteredFailed = c.enteredFailed ∧
    (c.stage e).leftMaint = c.leftMaint ∧ (c.stage e).trains = c.trains :=
  ⟨rfl, rfl, rfl, rfl, rfl, rfl, rfl, rfl, rfl, rfl, rfl, rfl, rfl, rfl, rfl, rfl, rfl, rfl, rfl, rfl, rfl, rfl, rfl, rfl, rfl⟩

@[simp] theorem State.modLine_fields (s : State) (f : HeadLine → HeadLine) :
    (s.modLine f).pending = s.pending ∧ (s.modLine f).running = s.running ∧ (s.modLine f).now = s.now ∧
    (s.modLine f).settings = s.settings ∧ (s.modLine f).line = f s.line ∧ (s.modLine f).secs = s.secs ∧
    (s.modLine f).trk = s.trk ∧ (s.modLine f).pred = s.pred ∧ (s.modLine f).seq = s.seq ∧ (s.modLine f).prv = s.prv ∧
    (s.modLine f).flt = s.flt ∧ (s.modLine f).queue = s.queue ∧ (s.modLine f).link = s.link ∧
    (s.modLine f).bus = s.bus ∧ (s.modLine f).cmd = s.cmd ∧ (s.modLine f).img = s.img ∧ (s.modLine f).ldr = s.ldr :=
  ⟨rfl, rfl, rfl, rfl, rfl, rfl, rfl, rfl, rfl, rfl, rfl, rfl, rfl, rfl, rfl, rfl, rfl⟩

@[simp] theorem State.modPrv_fields (s : State) (f : Proving → Proving) :
    (s.modPrv f).pending = s.pending ∧ (s.modPrv f).running = s.running ∧ (s.modPrv f).now = s.now ∧
    (s.modPrv f).settings = s.settings ∧ (s.modPrv f).line = s.line ∧ (s.modPrv f).secs = s.secs ∧
    (s.modPrv f).trk = s.trk ∧ (s.modPrv f).pred = s.pred ∧ (s.modPrv f).seq = s.seq ∧ (s.modPrv f).prv = f s.prv ∧
    (s.modPrv f).flt = s.flt ∧ (s.modPrv f).queue = s.queue ∧ (s.modPrv f).link = s.link ∧ (s.modPrv f).bus = s.bus ∧
    (s.modPrv f).cmd = s.cmd ∧ (s.modPrv f).img = s.img ∧ (s.modPrv f).ldr = s.ldr :=
  ⟨rfl, rfl, rfl, rfl, rfl, rfl, rfl, rfl, rfl, rfl, rfl, rfl, rfl, rfl, rfl, rfl, rfl⟩

@[simp] theorem State.modLink_fields (s : State) (f : Link → Link) :
    (s.modLink f).pending = s.pending ∧ (s.modLink f).running = s.running ∧ (s.modLink f).now = s.now ∧
    (s.modLink f).settings = s.settings ∧ (s.modLink f).line = s.line ∧ (s.modLink f).secs = s.secs ∧
    (s.modLink f).trk = s.trk ∧ (s.modLink f).pred = s.pred ∧ (s.modLink f).seq = s.seq ∧ (s.modLink f).prv = s.prv ∧
    (s.modLink f).flt = s.flt ∧ (s.modLink f).queue = s.queue ∧ (s.modLink f).link = f s.link ∧
    (s.modLink f).bus = s.bus ∧ (s.modLink f).cmd = s.cmd ∧ (s.modLink f).img = s.img ∧ (s.modLink f).ldr = s.ldr :=
  ⟨rfl, rfl, rfl, rfl, rfl, rfl, rfl, rfl, rfl, rfl, rfl, rfl, rfl, rfl, rfl, rfl, rfl⟩

@[simp] theorem State.modBus_fields (s : State) (f : Bus → Bus) :
    (s.modBus f).pending = s.pending ∧ (s.modBus f).running = s.running ∧ (s.modBus f).now = s.now ∧
    (s.modBus f).settings = s.settings ∧ (s.modBus f).line = s.line ∧ (s.modBus f).secs = s.secs ∧
    (s.modBus f).trk = s.trk ∧ (s.modBus f).pred = s.pred ∧ (s.modBus f).seq = s.seq ∧ (s.modBus f).prv = s.prv ∧
    (s.modBus f).flt = s.flt ∧ (s.modBus f).queue = s.queue ∧ (s.modBus f).link = s.link ∧
    (s.modBus f).bus = f s.bus ∧ (s.modBus f).cmd = s.cmd ∧ (s.modBus f).img = s.img ∧ (s.modBus f).ldr = s.ldr :=
  ⟨rfl, rfl, rfl, rfl, rfl, rfl, rfl, rfl, rfl, rfl, rfl, rfl, rfl, rfl, rfl, rfl, rfl⟩

@[simp] theorem State.stage_fields (s : State) (e : EventBody) :
    (s.stage e).pending = s.pending ∧ (s.stage e).running = s.running ∧ (s.stage e).now = s.now ∧
    (s.stage e).settings = s.settings ∧ (s.stage e).line = s.line ∧ (s.stage e).secs = s.secs ∧
    (s.stage e).trk = s.trk ∧ (s.stage e).pred = s.pred ∧ (s.stage e).seq = s.seq ∧ (s.stage e).prv = s.prv ∧
    (s.stage e).flt = s.flt ∧ (s.stage e).queue = s.queue ∧ (s.stage e).link = s.link ∧
    (s.stage e).bus = s.bus.stage s.now e ∧ (s.stage e).cmd = s.cmd ∧ (s.stage e).img = s.img ∧
    (s.stage e).ldr = s.ldr :=
  ⟨rfl, rfl, rfl, rfl, rfl, rfl, rfl, rfl, rfl, rfl, rfl, rfl, rfl, rfl, rfl, rfl, rfl⟩

@[simp] theorem Ctx.notice_state (c : Ctx) (p : Point) (b : Bool) (x : Option Cause) : (c.notice p b x).s = c.s := rfl

@[simp] theorem Ctx.notice_exit (c : Ctx) (p : Point) (b : Bool) (x : Option Cause) : (c.notice p b x).exit = c.exit := rfl

@[simp] theorem Ctx.queueDemand_state (c : Ctx) (k : DemandKey) (b : Bool) : (c.queueDemand k b).s = c.s := rfl

@[simp] theorem Ctx.queueDemand_exit (c : Ctx) (k : DemandKey) (b : Bool) : (c.queueDemand k b).exit = c.exit := rfl

@[simp] theorem Ctx.trainReport_exit (c : Ctx) (x : Content) : (c.trainReport x).exit = c.exit := rfl

@[simp] theorem Ctx.trainReport_state (c : Ctx) (x : Content) : (c.trainReport x).s = c.s := rfl

@[simp] theorem Ctx.start_state (s : State) : (Ctx.start s).s = s := rfl

@[simp] theorem Ctx.map_exit (c : Ctx) (f : State → State) : (c.map f).exit = c.exit := rfl

@[simp] theorem Ctx.map_state (c : Ctx) (f : State → State) : (c.map f).s = f c.s := rfl

/-! Tables: what a place holds after a write to it, and that the other places keep what they held. -/

@[simp] theorem put_same {α : Type} {n : Nat} (v : Vector α n) (i : Fin n) (x : α) : (put v i x)[i] = x := by
  simp [put]

theorem put_other {α : Type} {n : Nat} (v : Vector α n) (i j : Fin n) (x : α) (h : j ≠ i) : (put v i x)[j] = v[j] := by
  have : i.val ≠ j.val := fun e => h (Fin.ext e.symm)
  simp [put, this]

@[simp] theorem upd_same {α : Type} {n : Nat} (v : Vector α n) (i : Fin n) (f : α → α) : (upd v i f)[i] = f v[i] := by
  simp [upd]

theorem upd_other {α : Type} {n : Nat} (v : Vector α n) (i j : Fin n) (f : α → α) (h : j ≠ i) :
    (upd v i f)[j] = v[j] := by
  have : i.val ≠ j.val := fun e => h (Fin.ext e.symm)
  simp [upd, this]

end Sys2Proof.Machine
end

