-- ==== Sys2Proof/Laws/ClosingFrames.lean ====
section
/-! SUPPORT. What the operations of Ops and Closing leave alone, one lemma for each operation. -/

namespace Sys2Proof.Machine

/-! Doing something for each member of a list keeps what doing it once keeps. -/

theorem Ctx.forEach_keeps {α β : Type} (get : Ctx → β) (f : Ctx → α → Ctx) (h : ∀ c a, get (f c a) = get c)
    (l : List α) (c : Ctx) : get (c.forEach l f) = get c := by
  unfold Ctx.forEach
  induction l generalizing c with
  | nil => rfl
  | cons a l ih => rw [List.foldl_cons, ih, h]

@[simp] theorem Ctx.forEach_pending {α : Type} (f : Ctx → α → Ctx) (l : List α) (c : Ctx)
    (h : ∀ c a, (f c a).s.pending = c.s.pending) : (c.forEach l f).s.pending = c.s.pending :=
  Ctx.forEach_keeps (fun c => c.s.pending) f h l c

@[simp] theorem Ctx.forEach_running {α : Type} (f : Ctx → α → Ctx) (l : List α) (c : Ctx)
    (h : ∀ c a, (f c a).s.running = c.s.running) : (c.forEach l f).s.running = c.s.running :=
  Ctx.forEach_keeps (fun c => c.s.running) f h l c

@[simp] theorem Ctx.forEach_now {α : Type} (f : Ctx → α → Ctx) (l : List α) (c : Ctx)
    (h : ∀ c a, (f c a).s.now = c.s.now) : (c.forEach l f).s.now = c.s.now :=
  Ctx.forEach_keeps (fun c => c.s.now) f h l c

@[simp] theorem Ctx.forEach_settings {α : Type} (f : Ctx → α → Ctx) (l : List α) (c : Ctx)
    (h : ∀ c a, (f c a).s.settings = c.s.settings) : (c.forEach l f).s.settings = c.s.settings :=
  Ctx.forEach_keeps (fun c => c.s.settings) f h l c

@[simp] theorem Ctx.forEach_line {α : Type} (f : Ctx → α → Ctx) (l : List α) (c : Ctx)
    (h : ∀ c a, (f c a).s.line = c.s.line) : (c.forEach l f).s.line = c.s.line :=
  Ctx.forEach_keeps (fun c => c.s.line) f h l c

@[simp] theorem Ctx.forEach_secs {α : Type} (f : Ctx → α → Ctx) (l : List α) (c : Ctx)
    (h : ∀ c a, (f c a).s.secs = c.s.secs) : (c.forEach l f).s.secs = c.s.secs :=
  Ctx.forEach_keeps (fun c => c.s.secs) f h l c

@[simp] theorem Ctx.forEach_trk {α : Type} (f : Ctx → α → Ctx) (l : List α) (c : Ctx)
    (h : ∀ c a, (f c a).s.trk = c.s.trk) : (c.forEach l f).s.trk = c.s.trk :=
  Ctx.forEach_keeps (fun c => c.s.trk) f h l c

@[simp] theorem Ctx.forEach_pred {α : Type} (f : Ctx → α → Ctx) (l : List α) (c : Ctx)
    (h : ∀ c a, (f c a).s.pred = c.s.pred) : (c.forEach l f).s.pred = c.s.pred :=
  Ctx.forEach_keeps (fun c => c.s.pred) f h l c

@[simp] theorem Ctx.forEach_seq {α : Type} (f : Ctx → α → Ctx) (l : List α) (c : Ctx)
    (h : ∀ c a, (f c a).s.seq = c.s.seq) : (c.forEach l f).s.seq = c.s.seq :=
  Ctx.forEach_keeps (fun c => c.s.seq) f h l c

@[simp] theorem Ctx.forEach_prv {α : Type} (f : Ctx → α → Ctx) (l : List α) (c : Ctx)
    (h : ∀ c a, (f c a).s.prv = c.s.prv) : (c.forEach l f).s.prv = c.s.prv :=
  Ctx.forEach_keeps (fun c => c.s.prv) f h l c

@[simp] theorem Ctx.forEach_flt {α : Type} (f : Ctx → α → Ctx) (l : List α) (c : Ctx)
    (h : ∀ c a, (f c a).s.flt = c.s.flt) : (c.forEach l f).s.flt = c.s.flt :=
  Ctx.forEach_keeps (fun c => c.s.flt) f h l c

@[simp] theorem Ctx.forEach_queue {α : Type} (f : Ctx → α → Ctx) (l : List α) (c : Ctx)
    (h : ∀ c a, (f c a).s.queue = c.s.queue) : (c.forEach l f).s.queue = c.s.queue :=
  Ctx.forEach_keeps (fun c => c.s.queue) f h l c

@[simp] theorem Ctx.forEach_link {α : Type} (f : Ctx → α → Ctx) (l : List α) (c : Ctx)
    (h : ∀ c a, (f c a).s.link = c.s.link) : (c.forEach l f).s.link = c.s.link :=
  Ctx.forEach_keeps (fun c => c.s.link) f h l c

@[simp] theorem Ctx.forEach_bus {α : Type} (f : Ctx → α → Ctx) (l : List α) (c : Ctx)
    (h : ∀ c a, (f c a).s.bus = c.s.bus) : (c.forEach l f).s.bus = c.s.bus :=
  Ctx.forEach_keeps (fun c => c.s.bus) f h l c

@[simp] theorem Ctx.forEach_cmd {α : Type} (f : Ctx → α → Ctx) (l : List α) (c : Ctx)
    (h : ∀ c a, (f c a).s.cmd = c.s.cmd) : (c.forEach l f).s.cmd = c.s.cmd :=
  Ctx.forEach_keeps (fun c => c.s.cmd) f h l c

@[simp] theorem Ctx.forEach_img {α : Type} (f : Ctx → α → Ctx) (l : List α) (c : Ctx)
    (h : ∀ c a, (f c a).s.img = c.s.img) : (c.forEach l f).s.img = c.s.img :=
  Ctx.forEach_keeps (fun c => c.s.img) f h l c

@[simp] theorem Ctx.forEach_ldr {α : Type} (f : Ctx → α → Ctx) (l : List α) (c : Ctx)
    (h : ∀ c a, (f c a).s.ldr = c.s.ldr) : (c.forEach l f).s.ldr = c.s.ldr :=
  Ctx.forEach_keeps (fun c => c.s.ldr) f h l c

@[simp] theorem Ctx.forEach_exit {α : Type} (f : Ctx → α → Ctx) (l : List α) (c : Ctx)
    (h : ∀ c a, (f c a).exit = c.exit) : (c.forEach l f).exit = c.exit :=
  Ctx.forEach_keeps (fun c => c.exit) f h l c

@[simp] theorem Ctx.ite_pending (p : Prop) [Decidable p] (a b : Ctx) :
    (if p then a else b).s.pending = if p then a.s.pending else b.s.pending := apply_ite (fun c : Ctx => c.s.pending) p a b

@[simp] theorem Ctx.ite_running (p : Prop) [Decidable p] (a b : Ctx) :
    (if p then a else b).s.running = if p then a.s.running else b.s.running := apply_ite (fun c : Ctx => c.s.running) p a b

@[simp] theorem Ctx.ite_now (p : Prop) [Decidable p] (a b : Ctx) :
    (if p then a else b).s.now = if p then a.s.now else b.s.now := apply_ite (fun c : Ctx => c.s.now) p a b

@[simp] theorem Ctx.ite_settings (p : Prop) [Decidable p] (a b : Ctx) :
    (if p then a else b).s.settings = if p then a.s.settings else b.s.settings := apply_ite (fun c : Ctx => c.s.settings) p a b

@[simp] theorem Ctx.ite_line (p : Prop) [Decidable p] (a b : Ctx) :
    (if p then a else b).s.line = if p then a.s.line else b.s.line := apply_ite (fun c : Ctx => c.s.line) p a b

@[simp] theorem Ctx.ite_secs (p : Prop) [Decidable p] (a b : Ctx) :
    (if p then a else b).s.secs = if p then a.s.secs else b.s.secs := apply_ite (fun c : Ctx => c.s.secs) p a b

@[simp] theorem Ctx.ite_trk (p : Prop) [Decidable p] (a b : Ctx) :
    (if p then a else b).s.trk = if p then a.s.trk else b.s.trk := apply_ite (fun c : Ctx => c.s.trk) p a b

@[simp] theorem Ctx.ite_pred (p : Prop) [Decidable p] (a b : Ctx) :
    (if p then a else b).s.pred = if p then a.s.pred else b.s.pred := apply_ite (fun c : Ctx => c.s.pred) p a b

@[simp] theorem Ctx.ite_seq (p : Prop) [Decidable p] (a b : Ctx) :
    (if p then a else b).s.seq = if p then a.s.seq else b.s.seq := apply_ite (fun c : Ctx => c.s.seq) p a b

@[simp] theorem Ctx.ite_prv (p : Prop) [Decidable p] (a b : Ctx) :
    (if p then a else b).s.prv = if p then a.s.prv else b.s.prv := apply_ite (fun c : Ctx => c.s.prv) p a b

@[simp] theorem Ctx.ite_flt (p : Prop) [Decidable p] (a b : Ctx) :
    (if p then a else b).s.flt = if p then a.s.flt else b.s.flt := apply_ite (fun c : Ctx => c.s.flt) p a b

@[simp] theorem Ctx.ite_queue (p : Prop) [Decidable p] (a b : Ctx) :
    (if p then a else b).s.queue = if p then a.s.queue else b.s.queue := apply_ite (fun c : Ctx => c.s.queue) p a b

@[simp] theorem Ctx.ite_link (p : Prop) [Decidable p] (a b : Ctx) :
    (if p then a else b).s.link = if p then a.s.link else b.s.link := apply_ite (fun c : Ctx => c.s.link) p a b

@[simp] theorem Ctx.ite_bus (p : Prop) [Decidable p] (a b : Ctx) :
    (if p then a else b).s.bus = if p then a.s.bus else b.s.bus := apply_ite (fun c : Ctx => c.s.bus) p a b

@[simp] theorem Ctx.ite_cmd (p : Prop) [Decidable p] (a b : Ctx) :
    (if p then a else b).s.cmd = if p then a.s.cmd else b.s.cmd := apply_ite (fun c : Ctx => c.s.cmd) p a b

@[simp] theorem Ctx.ite_img (p : Prop) [Decidable p] (a b : Ctx) :
    (if p then a else b).s.img = if p then a.s.img else b.s.img := apply_ite (fun c : Ctx => c.s.img) p a b

@[simp] theorem Ctx.ite_ldr (p : Prop) [Decidable p] (a b : Ctx) :
    (if p then a else b).s.ldr = if p then a.s.ldr else b.s.ldr := apply_ite (fun c : Ctx => c.s.ldr) p a b

@[simp] theorem Ctx.ite_exit (p : Prop) [Decidable p] (a b : Ctx) :
    (if p then a else b).exit = if p then a.exit else b.exit := apply_ite (fun c : Ctx => c.exit) p a b

@[simp] theorem Ctx.reportPoint_frame (c : Ctx) (p : Point) :
    (c.reportPoint p).s.pending = c.s.pending ∧ (c.reportPoint p).s.running = c.s.running ∧
    (c.reportPoint p).s.now = c.s.now ∧ (c.reportPoint p).s.settings = c.s.settings ∧
    (c.reportPoint p).s.line = c.s.line ∧ (c.reportPoint p).s.secs = c.s.secs ∧ (c.reportPoint p).s.trk = c.s.trk ∧
    (c.reportPoint p).s.pred = c.s.pred ∧ (c.reportPoint p).s.seq = c.s.seq ∧ (c.reportPoint p).s.prv = c.s.prv ∧
    (c.reportPoint p).s.flt = c.s.flt ∧ (c.reportPoint p).s.link = c.s.link ∧ (c.reportPoint p).s.bus = c.s.bus ∧
    (c.reportPoint p).s.cmd = c.s.cmd ∧ (c.reportPoint p).s.img = c.s.img ∧ (c.reportPoint p).s.ldr = c.s.ldr ∧
    (c.reportPoint p).exit = c.exit := by
  and_intros <;> simp only [Ctx.reportPoint] <;> (repeat' split) <;> simp

@[simp] theorem Ctx.setEntry_frame (c : Ctx) (p : Point) (e : FaultEntry) :
    (c.setEntry p e).s.pending = c.s.pending ∧ (c.setEntry p e).s.running = c.s.running ∧
    (c.setEntry p e).s.now = c.s.now ∧ (c.setEntry p e).s.settings = c.s.settings ∧
    (c.setEntry p e).s.line = c.s.line ∧ (c.setEntry p e).s.secs = c.s.secs ∧ (c.setEntry p e).s.trk = c.s.trk ∧
    (c.setEntry p e).s.pred = c.s.pred ∧ (c.setEntry p e).s.seq = c.s.seq ∧ (c.setEntry p e).s.prv = c.s.prv ∧
    (c.setEntry p e).s.queue = c.s.queue ∧ (c.setEntry p e).s.link = c.s.link ∧ (c.setEntry p e).s.bus = c.s.bus ∧
    (c.setEntry p e).s.cmd = c.s.cmd ∧ (c.setEntry p e).s.img = c.s.img ∧ (c.setEntry p e).s.ldr = c.s.ldr ∧
    (c.setEntry p e).exit = c.exit := by
  simp [Ctx.setEntry]

@[simp] theorem Ctx.takeNotice_frame (c : Ctx) (n : Notice) :
    (c.takeNotice n).s.pending = c.s.pending ∧ (c.takeNotice n).s.running = c.s.running ∧
    (c.takeNotice n).s.now = c.s.now ∧ (c.takeNotice n).s.settings = c.s.settings ∧
    (c.takeNotice n).s.line = c.s.line ∧ (c.takeNotice n).s.secs = c.s.secs ∧ (c.takeNotice n).s.trk = c.s.trk ∧
    (c.takeNotice n).s.pred = c.s.pred ∧ (c.takeNotice n).s.seq = c.s.seq ∧ (c.takeNotice n).s.prv = c.s.prv ∧
    (c.takeNotice n).s.link = c.s.link ∧ (c.takeNotice n).s.cmd = c.s.cmd ∧ (c.takeNotice n).s.img = c.s.img ∧
    (c.takeNotice n).s.ldr = c.s.ldr ∧ (c.takeNotice n).exit = c.exit := by
  and_intros <;> simp only [Ctx.takeNotice] <;> (repeat' split) <;> simp

@[simp] theorem Ctx.deriveMode_frame (c : Ctx) :
    (c.deriveMode).s.pending = c.s.pending ∧ (c.deriveMode).s.running = c.s.running ∧ (c.deriveMode).s.now = c.s.now ∧
    (c.deriveMode).s.settings = c.s.settings ∧ (c.deriveMode).s.line = c.s.line ∧ (c.deriveMode).s.secs = c.s.secs ∧
    (c.deriveMode).s.trk = c.s.trk ∧ (c.deriveMode).s.pred = c.s.pred ∧ (c.deriveMode).s.seq = c.s.seq ∧
    (c.deriveMode).s.prv = c.s.prv ∧ (c.deriveMode).s.queue = c.s.queue ∧ (c.deriveMode).s.link = c.s.link ∧
    (c.deriveMode).s.cmd = c.s.cmd ∧ (c.deriveMode).s.img = c.s.img ∧ (c.deriveMode).s.ldr = c.s.ldr ∧
    (c.deriveMode).exit = c.exit := by
  and_intros <;> simp only [Ctx.deriveMode] <;> (repeat' split) <;> simp

@[simp] theorem Ctx.takePoints_frame (c : Ctx) :
    (c.takePoints).s.pending = c.s.pending ∧ (c.takePoints).s.running = c.s.running ∧ (c.takePoints).s.now = c.s.now ∧
    (c.takePoints).s.settings = c.s.settings ∧ (c.takePoints).s.line = c.s.line ∧ (c.takePoints).s.secs = c.s.secs ∧
    (c.takePoints).s.trk = c.s.trk ∧ (c.takePoints).s.pred = c.s.pred ∧ (c.takePoints).s.seq = c.s.seq ∧
    (c.takePoints).s.prv = c.s.prv ∧ (c.takePoints).s.link = c.s.link ∧ (c.takePoints).s.cmd = c.s.cmd ∧
    (c.takePoints).s.img = c.s.img ∧ (c.takePoints).s.ldr = c.s.ldr ∧ (c.takePoints).exit = c.exit := by
  simp [Ctx.takePoints]

@[simp] theorem Ctx.faultWork_frame (c : Ctx) :
    (c.faultWork).s.pending = c.s.pending ∧ (c.faultWork).s.running = c.s.running ∧ (c.faultWork).s.now = c.s.now ∧
    (c.faultWork).s.settings = c.s.settings ∧ (c.faultWork).s.line = c.s.line ∧ (c.faultWork).s.secs = c.s.secs ∧
    (c.faultWork).s.trk = c.s.trk ∧ (c.faultWork).s.pred = c.s.pred ∧ (c.faultWork).s.seq = c.s.seq ∧
    (c.faultWork).s.prv = c.s.prv ∧ (c.faultWork).s.link = c.s.link ∧ (c.faultWork).s.cmd = c.s.cmd ∧
    (c.faultWork).s.img = c.s.img ∧ (c.faultWork).s.ldr = c.s.ldr ∧ (c.faultWork).exit = c.exit := by
  simp [Ctx.faultWork]

@[simp] theorem Ctx.unflag_frame (c : Ctx) (p : Point) :
    (c.unflag p).s.pending = c.s.pending ∧ (c.unflag p).s.running = c.s.running ∧ (c.unflag p).s.now = c.s.now ∧
    (c.unflag p).s.settings = c.s.settings ∧ (c.unflag p).s.line = c.s.line ∧ (c.unflag p).s.secs = c.s.secs ∧
    (c.unflag p).s.trk = c.s.trk ∧ (c.unflag p).s.pred = c.s.pred ∧ (c.unflag p).s.seq = c.s.seq ∧
    (c.unflag p).s.prv = c.s.prv ∧ (c.unflag p).s.link = c.s.link ∧ (c.unflag p).s.bus = c.s.bus ∧
    (c.unflag p).s.cmd = c.s.cmd ∧ (c.unflag p).s.img = c.s.img ∧ (c.unflag p).s.ldr = c.s.ldr ∧
    (c.unflag p).exit = c.exit := by
  and_intros <;> simp only [Ctx.unflag] <;> (repeat' split) <;> simp

@[simp] theorem Ctx.closeReports_frame (c : Ctx) :
    (c.closeReports).s.pending = c.s.pending ∧ (c.closeReports).s.running = c.s.running ∧
    (c.closeReports).s.now = c.s.now ∧ (c.closeReports).s.settings = c.s.settings ∧
    (c.closeReports).s.line = c.s.line ∧ (c.closeReports).s.secs = c.s.secs ∧ (c.closeReports).s.trk = c.s.trk ∧
    (c.closeReports).s.pred = c.s.pred ∧ (c.closeReports).s.seq = c.s.seq ∧ (c.closeReports).s.prv = c.s.prv ∧
    (c.closeReports).s.link = c.s.link ∧ (c.closeReports).s.bus = c.s.bus ∧ (c.closeReports).s.cmd = c.s.cmd ∧
    (c.closeReports).s.img = c.s.img ∧ (c.closeReports).s.ldr = c.s.ldr ∧ (c.closeReports).exit = c.exit := by
  and_intros <;> simp only [Ctx.closeReports] <;> (repeat' split) <;> simp

@[simp] theorem Ctx.setLamp_frame (c : Ctx) (i : Lamp) (x : LampCmd) :
    (c.setLamp i x).s.pending = c.s.pending ∧ (c.setLamp i x).s.running = c.s.running ∧
    (c.setLamp i x).s.now = c.s.now ∧ (c.setLamp i x).s.settings = c.s.settings ∧ (c.setLamp i x).s.line = c.s.line ∧
    (c.setLamp i x).s.secs = c.s.secs ∧ (c.setLamp i x).s.trk = c.s.trk ∧ (c.setLamp i x).s.pred = c.s.pred ∧
    (c.setLamp i x).s.flt = c.s.flt ∧ (c.setLamp i x).s.queue = c.s.queue ∧ (c.setLamp i x).s.link = c.s.link ∧
    (c.setLamp i x).s.bus = c.s.bus ∧ (c.setLamp i x).s.cmd = c.s.cmd ∧ (c.setLamp i x).s.img = c.s.img ∧
    (c.setLamp i x).s.ldr = c.s.ldr ∧ (c.setLamp i x).exit = c.exit := by
  and_intros <;> simp only [Ctx.setLamp] <;> (repeat' split) <;> simp

@[simp] theorem Ctx.startReds_frame (c : Ctx) :
    (c.startReds).s.pending = c.s.pending ∧ (c.startReds).s.running = c.s.running ∧ (c.startReds).s.now = c.s.now ∧
    (c.startReds).s.settings = c.s.settings ∧ (c.startReds).s.line = c.s.line ∧ (c.startReds).s.secs = c.s.secs ∧
    (c.startReds).s.trk = c.s.trk ∧ (c.startReds).s.pred = c.s.pred ∧ (c.startReds).s.seq = c.s.seq ∧
    (c.startReds).s.flt = c.s.flt ∧ (c.startReds).s.queue = c.s.queue ∧ (c.startReds).s.link = c.s.link ∧
    (c.startReds).s.bus = c.s.bus ∧ (c.startReds).s.cmd = c.s.cmd ∧ (c.startReds).s.img = c.s.img ∧
    (c.startReds).s.ldr = c.s.ldr ∧ (c.startReds).exit = c.exit := by
  simp [Ctx.startReds]

@[simp] theorem Ctx.syncFlasher_frame (c : Ctx) :
    (c.syncFlasher).s.pending = c.s.pending ∧ (c.syncFlasher).s.running = c.s.running ∧
    (c.syncFlasher).s.now = c.s.now ∧ (c.syncFlasher).s.settings = c.s.settings ∧ (c.syncFlasher).s.line = c.s.line ∧
    (c.syncFlasher).s.secs = c.s.secs ∧ (c.syncFlasher).s.trk = c.s.trk ∧ (c.syncFlasher).s.pred = c.s.pred ∧
    (c.syncFlasher).s.flt = c.s.flt ∧ (c.syncFlasher).s.queue = c.s.queue ∧ (c.syncFlasher).s.link = c.s.link ∧
    (c.syncFlasher).s.bus = c.s.bus ∧ (c.syncFlasher).s.cmd = c.s.cmd ∧ (c.syncFlasher).s.img = c.s.img ∧
    (c.syncFlasher).s.ldr = c.s.ldr ∧ (c.syncFlasher).exit = c.exit := by
  and_intros <;> simp only [Ctx.syncFlasher] <;> (repeat' split) <;> simp

@[simp] theorem Ctx.setRoad_frame (c : Ctx) (x : Crossing) :
    (c.setRoad x).s.pending = c.s.pending ∧ (c.setRoad x).s.running = c.s.running ∧ (c.setRoad x).s.now = c.s.now ∧
    (c.setRoad x).s.settings = c.s.settings ∧ (c.setRoad x).s.line = c.s.line ∧ (c.setRoad x).s.secs = c.s.secs ∧
    (c.setRoad x).s.trk = c.s.trk ∧ (c.setRoad x).s.pred = c.s.pred ∧ (c.setRoad x).s.flt = c.s.flt ∧
    (c.setRoad x).s.queue = c.s.queue ∧ (c.setRoad x).s.link = c.s.link ∧ (c.setRoad x).s.bus = c.s.bus ∧
    (c.setRoad x).s.cmd = c.s.cmd ∧ (c.setRoad x).s.img = c.s.img ∧ (c.setRoad x).s.ldr = c.s.ldr ∧
    (c.setRoad x).exit = c.exit := by
  simp [Ctx.setRoad]

@[simp] theorem Ctx.boomGoTest_frame (c : Ctx) (b : Boom) :
    (c.boomGoTest b).s.pending = c.s.pending ∧ (c.boomGoTest b).s.running = c.s.running ∧
    (c.boomGoTest b).s.now = c.s.now ∧ (c.boomGoTest b).s.settings = c.s.settings ∧
    (c.boomGoTest b).s.line = c.s.line ∧ (c.boomGoTest b).s.secs = c.s.secs ∧ (c.boomGoTest b).s.trk = c.s.trk ∧
    (c.boomGoTest b).s.pred = c.s.pred ∧ (c.boomGoTest b).s.seq = c.s.seq ∧ (c.boomGoTest b).s.flt = c.s.flt ∧
    (c.boomGoTest b).s.queue = c.s.queue ∧ (c.boomGoTest b).s.link = c.s.link ∧ (c.boomGoTest b).s.bus = c.s.bus ∧
    (c.boomGoTest b).s.cmd = c.s.cmd ∧ (c.boomGoTest b).s.img = c.s.img ∧ (c.boomGoTest b).s.ldr = c.s.ldr ∧
    (c.boomGoTest b).exit = c.exit := by
  and_intros <;> simp only [Ctx.boomGoTest] <;> (repeat' split) <;> simp

@[simp] theorem Ctx.boomCause_frame (c : Ctx) (b : Boom) (x : BoomCause) :
    (c.boomCause b x).s.pending = c.s.pending ∧ (c.boomCause b x).s.running = c.s.running ∧
    (c.boomCause b x).s.now = c.s.now ∧ (c.boomCause b x).s.settings = c.s.settings ∧
    (c.boomCause b x).s.line = c.s.line ∧ (c.boomCause b x).s.secs = c.s.secs ∧ (c.boomCause b x).s.trk = c.s.trk ∧
    (c.boomCause b x).s.pred = c.s.pred ∧ (c.boomCause b x).s.seq = c.s.seq ∧ (c.boomCause b x).s.flt = c.s.flt ∧
    (c.boomCause b x).s.queue = c.s.queue ∧ (c.boomCause b x).s.link = c.s.link ∧ (c.boomCause b x).s.bus = c.s.bus ∧
    (c.boomCause b x).s.cmd = c.s.cmd ∧ (c.boomCause b x).s.img = c.s.img ∧ (c.boomCause b x).s.ldr = c.s.ldr ∧
    (c.boomCause b x).exit = c.exit := by
  and_intros <;> simp only [Ctx.boomCause] <;> (repeat' split) <;> simp

@[simp] theorem Ctx.handTarget_frame (c : Ctx) (b : Boom) (t : Target) :
    (c.handTarget b t).s.pending = c.s.pending ∧ (c.handTarget b t).s.running = c.s.running ∧
    (c.handTarget b t).s.now = c.s.now ∧ (c.handTarget b t).s.settings = c.s.settings ∧
    (c.handTarget b t).s.line = c.s.line ∧ (c.handTarget b t).s.secs = c.s.secs ∧ (c.handTarget b t).s.trk = c.s.trk ∧
    (c.handTarget b t).s.pred = c.s.pred ∧ (c.handTarget b t).s.flt = c.s.flt ∧
    (c.handTarget b t).s.queue = c.s.queue ∧ (c.handTarget b t).s.link = c.s.link ∧
    (c.handTarget b t).s.bus = c.s.bus ∧ (c.handTarget b t).s.cmd = c.s.cmd ∧ (c.handTarget b t).s.img = c.s.img ∧
    (c.handTarget b t).s.ldr = c.s.ldr ∧ (c.handTarget b t).exit = c.exit := by
  and_intros <;> simp only [Ctx.handTarget] <;> (repeat' split) <;> simp

@[simp] theorem Ctx.handAll_frame (c : Ctx) (bs : List Boom) (t : Target) :
    (c.handAll bs t).s.pending = c.s.pending ∧ (c.handAll bs t).s.running = c.s.running ∧
    (c.handAll bs t).s.now = c.s.now ∧ (c.handAll bs t).s.settings = c.s.settings ∧
    (c.handAll bs t).s.line = c.s.line ∧ (c.handAll bs t).s.secs = c.s.secs ∧ (c.handAll bs t).s.trk = c.s.trk ∧
    (c.handAll bs t).s.pred = c.s.pred ∧ (c.handAll bs t).s.flt = c.s.flt ∧ (c.handAll bs t).s.queue = c.s.queue ∧
    (c.handAll bs t).s.link = c.s.link ∧ (c.handAll bs t).s.bus = c.s.bus ∧ (c.handAll bs t).s.cmd = c.s.cmd ∧
    (c.handAll bs t).s.img = c.s.img ∧ (c.handAll bs t).s.ldr = c.s.ldr ∧ (c.handAll bs t).exit = c.exit := by
  simp [Ctx.handAll]

@[simp] theorem Ctx.arrestBoom_frame (c : Ctx) (b : Boom) :
    (c.arrestBoom b).s.pending = c.s.pending ∧ (c.arrestBoom b).s.running = c.s.running ∧
    (c.arrestBoom b).s.now = c.s.now ∧ (c.arrestBoom b).s.settings = c.s.settings ∧
    (c.arrestBoom b).s.line = c.s.line ∧ (c.arrestBoom b).s.secs = c.s.secs ∧ (c.arrestBoom b).s.trk = c.s.trk ∧
    (c.arrestBoom b).s.pred = c.s.pred ∧ (c.arrestBoom b).s.prv = c.s.prv ∧ (c.arrestBoom b).s.flt = c.s.flt ∧
    (c.arrestBoom b).s.queue = c.s.queue ∧ (c.arrestBoom b).s.link = c.s.link ∧ (c.arrestBoom b).s.bus = c.s.bus ∧
    (c.arrestBoom b).s.cmd = c.s.cmd ∧ (c.arrestBoom b).s.img = c.s.img ∧ (c.arrestBoom b).s.ldr = c.s.ldr ∧
    (c.arrestBoom b).exit = c.exit := by
  simp [Ctx.arrestBoom]

@[simp] theorem Ctx.changeTo_frame (c : Ctx) (x : Crossing) :
    (c.changeTo x).s.pending = c.s.pending ∧ (c.changeTo x).s.running = c.s.running ∧ (c.changeTo x).s.now = c.s.now ∧
    (c.changeTo x).s.settings = c.s.settings ∧ (c.changeTo x).s.line = c.s.line ∧ (c.changeTo x).s.secs = c.s.secs ∧
    (c.changeTo x).s.trk = c.s.trk ∧ (c.changeTo x).s.pred = c.s.pred ∧ (c.changeTo x).s.prv = c.s.prv ∧
    (c.changeTo x).s.flt = c.s.flt ∧ (c.changeTo x).s.queue = c.s.queue ∧ (c.changeTo x).s.link = c.s.link ∧
    (c.changeTo x).s.cmd = c.s.cmd ∧ (c.changeTo x).s.img = c.s.img ∧ (c.changeTo x).s.ldr = c.s.ldr ∧
    (c.changeTo x).exit = c.exit := by
  and_intros <;> simp only [Ctx.changeTo] <;> (repeat' split) <;> simp

@[simp] theorem Ctx.enterAmber_frame (c : Ctx) :
    (c.enterAmber).s.pending = c.s.pending ∧ (c.enterAmber).s.running = c.s.running ∧ (c.enterAmber).s.now = c.s.now ∧
    (c.enterAmber).s.settings = c.s.settings ∧ (c.enterAmber).s.line = c.s.line ∧ (c.enterAmber).s.secs = c.s.secs ∧
    (c.enterAmber).s.trk = c.s.trk ∧ (c.enterAmber).s.pred = c.s.pred ∧ (c.enterAmber).s.flt = c.s.flt ∧
    (c.enterAmber).s.queue = c.s.queue ∧ (c.enterAmber).s.link = c.s.link ∧ (c.enterAmber).s.cmd = c.s.cmd ∧
    (c.enterAmber).s.img = c.s.img ∧ (c.enterAmber).s.ldr = c.s.ldr ∧ (c.enterAmber).exit = c.exit := by
  and_intros <;> simp only [Ctx.enterAmber] <;> (repeat' split) <;> simp

@[simp] theorem Ctx.enterRedWarn_frame (c : Ctx) :
    (c.enterRedWarn).s.pending = c.s.pending ∧ (c.enterRedWarn).s.running = c.s.running ∧
    (c.enterRedWarn).s.now = c.s.now ∧ (c.enterRedWarn).s.settings = c.s.settings ∧
    (c.enterRedWarn).s.line = c.s.line ∧ (c.enterRedWarn).s.secs = c.s.secs ∧ (c.enterRedWarn).s.trk = c.s.trk ∧
    (c.enterRedWarn).s.pred = c.s.pred ∧ (c.enterRedWarn).s.flt = c.s.flt ∧ (c.enterRedWarn).s.queue = c.s.queue ∧
    (c.enterRedWarn).s.link = c.s.link ∧ (c.enterRedWarn).s.cmd = c.s.cmd ∧ (c.enterRedWarn).s.img = c.s.img ∧
    (c.enterRedWarn).s.ldr = c.s.ldr ∧ (c.enterRedWarn).exit = c.exit := by
  and_intros <;> simp only [Ctx.enterRedWarn] <;> (repeat' split) <;> simp

@[simp] theorem Ctx.enterClearance_frame (c : Ctx) :
    (c.enterClearance).s.pending = c.s.pending ∧ (c.enterClearance).s.running = c.s.running ∧
    (c.enterClearance).s.now = c.s.now ∧ (c.enterClearance).s.settings = c.s.settings ∧
    (c.enterClearance).s.line = c.s.line ∧ (c.enterClearance).s.secs = c.s.secs ∧ (c.enterClearance).s.trk = c.s.trk ∧
    (c.enterClearance).s.pred = c.s.pred ∧ (c.enterClearance).s.flt = c.s.flt ∧
    (c.enterClearance).s.queue = c.s.queue ∧ (c.enterClearance).s.link = c.s.link ∧
    (c.enterClearance).s.cmd = c.s.cmd ∧ (c.enterClearance).s.img = c.s.img ∧ (c.enterClearance).s.ldr = c.s.ldr ∧
    (c.enterClearance).exit = c.exit := by
  and_intros <;> simp only [Ctx.enterClearance] <;> (repeat' split) <;> simp

@[simp] theorem Ctx.entryDownTest_frame (c : Ctx) :
    (c.entryDownTest).s.pending = c.s.pending ∧ (c.entryDownTest).s.running = c.s.running ∧
    (c.entryDownTest).s.now = c.s.now ∧ (c.entryDownTest).s.settings = c.s.settings ∧
    (c.entryDownTest).s.line = c.s.line ∧ (c.entryDownTest).s.secs = c.s.secs ∧ (c.entryDownTest).s.trk = c.s.trk ∧
    (c.entryDownTest).s.pred = c.s.pred ∧ (c.entryDownTest).s.flt = c.s.flt ∧ (c.entryDownTest).s.queue = c.s.queue ∧
    (c.entryDownTest).s.link = c.s.link ∧ (c.entryDownTest).s.cmd = c.s.cmd ∧ (c.entryDownTest).s.img = c.s.img ∧
    (c.entryDownTest).s.ldr = c.s.ldr ∧ (c.entryDownTest).exit = c.exit := by
  and_intros <;> simp only [Ctx.entryDownTest] <;> (repeat' split) <;> simp

@[simp] theorem Ctx.enterEntryLower_frame (c : Ctx) :
    (c.enterEntryLower).s.pending = c.s.pending ∧ (c.enterEntryLower).s.running = c.s.running ∧
    (c.enterEntryLower).s.now = c.s.now ∧ (c.enterEntryLower).s.settings = c.s.settings ∧
    (c.enterEntryLower).s.line = c.s.line ∧ (c.enterEntryLower).s.secs = c.s.secs ∧
    (c.enterEntryLower).s.trk = c.s.trk ∧ (c.enterEntryLower).s.pred = c.s.pred ∧
    (c.enterEntryLower).s.flt = c.s.flt ∧ (c.enterEntryLower).s.queue = c.s.queue ∧
    (c.enterEntryLower).s.link = c.s.link ∧ (c.enterEntryLower).s.cmd = c.s.cmd ∧
    (c.enterEntryLower).s.img = c.s.img ∧ (c.enterEntryLower).s.ldr = c.s.ldr ∧ (c.enterEntryLower).exit = c.exit := by
  and_intros <;> simp only [Ctx.enterEntryLower] <;> (repeat' split) <;> simp

@[simp] theorem Ctx.closeCore_frame (c : Ctx) :
    (c.closeCore).s.pending = c.s.pending ∧ (c.closeCore).s.running = c.s.running ∧ (c.closeCore).s.now = c.s.now ∧
    (c.closeCore).s.settings = c.s.settings ∧ (c.closeCore).s.line = c.s.line ∧ (c.closeCore).s.secs = c.s.secs ∧
    (c.closeCore).s.trk = c.s.trk ∧ (c.closeCore).s.pred = c.s.pred ∧ (c.closeCore).s.flt = c.s.flt ∧
    (c.closeCore).s.queue = c.s.queue ∧ (c.closeCore).s.link = c.s.link ∧ (c.closeCore).s.cmd = c.s.cmd ∧
    (c.closeCore).s.img = c.s.img ∧ (c.closeCore).s.ldr = c.s.ldr ∧ (c.closeCore).exit = c.exit := by
  and_intros <;> simp only [Ctx.closeCore] <;> (repeat' split) <;> simp

@[simp] theorem Ctx.interruptRaising_frame (c : Ctx) :
    (c.interruptRaising).s.pending = c.s.pending ∧ (c.interruptRaising).s.running = c.s.running ∧
    (c.interruptRaising).s.now = c.s.now ∧ (c.interruptRaising).s.settings = c.s.settings ∧
    (c.interruptRaising).s.line = c.s.line ∧ (c.interruptRaising).s.secs = c.s.secs ∧
    (c.interruptRaising).s.trk = c.s.trk ∧ (c.interruptRaising).s.pred = c.s.pred ∧
    (c.interruptRaising).s.flt = c.s.flt ∧ (c.interruptRaising).s.queue = c.s.queue ∧
    (c.interruptRaising).s.link = c.s.link ∧ (c.interruptRaising).s.cmd = c.s.cmd ∧
    (c.interruptRaising).s.img = c.s.img ∧ (c.interruptRaising).s.ldr = c.s.ldr ∧ (c.interruptRaising).exit = c.exit := by
  and_intros <;> simp only [Ctx.interruptRaising] <;> (repeat' split) <;> simp

@[simp] theorem Ctx.enterOpen_frame (c : Ctx) :
    (c.enterOpen).s.pending = c.s.pending ∧ (c.enterOpen).s.running = c.s.running ∧ (c.enterOpen).s.now = c.s.now ∧
    (c.enterOpen).s.settings = c.s.settings ∧ (c.enterOpen).s.line = c.s.line ∧ (c.enterOpen).s.secs = c.s.secs ∧
    (c.enterOpen).s.trk = c.s.trk ∧ (c.enterOpen).s.pred = c.s.pred ∧ (c.enterOpen).s.flt = c.s.flt ∧
    (c.enterOpen).s.queue = c.s.queue ∧ (c.enterOpen).s.link = c.s.link ∧ (c.enterOpen).s.cmd = c.s.cmd ∧
    (c.enterOpen).s.img = c.s.img ∧ (c.enterOpen).s.ldr = c.s.ldr ∧ (c.enterOpen).exit = c.exit := by
  and_intros <;> simp only [Ctx.enterOpen] <;> (repeat' split) <;> simp

@[simp] theorem Ctx.enterRaising_frame (c : Ctx) :
    (c.enterRaising).s.pending = c.s.pending ∧ (c.enterRaising).s.running = c.s.running ∧
    (c.enterRaising).s.now = c.s.now ∧ (c.enterRaising).s.settings = c.s.settings ∧
    (c.enterRaising).s.line = c.s.line ∧ (c.enterRaising).s.secs = c.s.secs ∧ (c.enterRaising).s.trk = c.s.trk ∧
    (c.enterRaising).s.pred = c.s.pred ∧ (c.enterRaising).s.flt = c.s.flt ∧ (c.enterRaising).s.queue = c.s.queue ∧
    (c.enterRaising).s.link = c.s.link ∧ (c.enterRaising).s.cmd = c.s.cmd ∧ (c.enterRaising).s.img = c.s.img ∧
    (c.enterRaising).s.ldr = c.s.ldr ∧ (c.enterRaising).exit = c.exit := by
  and_intros <;> simp only [Ctx.enterRaising] <;> (repeat' split) <;> simp

@[simp] theorem Ctx.openingCheck_frame (c : Ctx) :
    (c.openingCheck).s.pending = c.s.pending ∧ (c.openingCheck).s.running = c.s.running ∧
    (c.openingCheck).s.now = c.s.now ∧ (c.openingCheck).s.settings = c.s.settings ∧
    (c.openingCheck).s.line = c.s.line ∧ (c.openingCheck).s.secs = c.s.secs ∧ (c.openingCheck).s.trk = c.s.trk ∧
    (c.openingCheck).s.pred = c.s.pred ∧ (c.openingCheck).s.flt = c.s.flt ∧ (c.openingCheck).s.queue = c.s.queue ∧
    (c.openingCheck).s.link = c.s.link ∧ (c.openingCheck).s.cmd = c.s.cmd ∧ (c.openingCheck).s.img = c.s.img ∧
    (c.openingCheck).s.ldr = c.s.ldr ∧ (c.openingCheck).exit = c.exit := by
  and_intros <;> simp only [Ctx.openingCheck] <;> (repeat' split) <;> simp

@[simp] theorem Ctx.enterClosed_frame (c : Ctx) :
    (c.enterClosed).s.pending = c.s.pending ∧ (c.enterClosed).s.running = c.s.running ∧
    (c.enterClosed).s.now = c.s.now ∧ (c.enterClosed).s.settings = c.s.settings ∧ (c.enterClosed).s.line = c.s.line ∧
    (c.enterClosed).s.secs = c.s.secs ∧ (c.enterClosed).s.trk = c.s.trk ∧ (c.enterClosed).s.pred = c.s.pred ∧
    (c.enterClosed).s.flt = c.s.flt ∧ (c.enterClosed).s.queue = c.s.queue ∧ (c.enterClosed).s.link = c.s.link ∧
    (c.enterClosed).s.cmd = c.s.cmd ∧ (c.enterClosed).s.img = c.s.img ∧ (c.enterClosed).s.ldr = c.s.ldr ∧
    (c.enterClosed).exit = c.exit := by
  and_intros <;> simp only [Ctx.enterClosed] <;> (repeat' split) <;> simp

@[simp] theorem Ctx.enterExitLower_frame (c : Ctx) :
    (c.enterExitLower).s.pending = c.s.pending ∧ (c.enterExitLower).s.running = c.s.running ∧
    (c.enterExitLower).s.now = c.s.now ∧ (c.enterExitLower).s.settings = c.s.settings ∧
    (c.enterExitLower).s.line = c.s.line ∧ (c.enterExitLower).s.secs = c.s.secs ∧ (c.enterExitLower).s.trk = c.s.trk ∧
    (c.enterExitLower).s.pred = c.s.pred ∧ (c.enterExitLower).s.flt = c.s.flt ∧
    (c.enterExitLower).s.queue = c.s.queue ∧ (c.enterExitLower).s.link = c.s.link ∧
    (c.enterExitLower).s.cmd = c.s.cmd ∧ (c.enterExitLower).s.img = c.s.img ∧ (c.enterExitLower).s.ldr = c.s.ldr ∧
    (c.enterExitLower).exit = c.exit := by
  and_intros <;> simp only [Ctx.enterExitLower] <;> (repeat' split) <;> simp

@[simp] theorem Ctx.enterStartClose_frame (c : Ctx) :
    (c.enterStartClose).s.pending = c.s.pending ∧ (c.enterStartClose).s.running = c.s.running ∧
    (c.enterStartClose).s.now = c.s.now ∧ (c.enterStartClose).s.settings = c.s.settings ∧
    (c.enterStartClose).s.line = c.s.line ∧ (c.enterStartClose).s.secs = c.s.secs ∧
    (c.enterStartClose).s.trk = c.s.trk ∧ (c.enterStartClose).s.pred = c.s.pred ∧
    (c.enterStartClose).s.flt = c.s.flt ∧ (c.enterStartClose).s.queue = c.s.queue ∧
    (c.enterStartClose).s.link = c.s.link ∧ (c.enterStartClose).s.cmd = c.s.cmd ∧
    (c.enterStartClose).s.img = c.s.img ∧ (c.enterStartClose).s.ldr = c.s.ldr ∧ (c.enterStartClose).exit = c.exit := by
  and_intros <;> simp only [Ctx.enterStartClose] <;> (repeat' split) <;> simp

@[simp] theorem Ctx.raise_frame (c : Ctx) (k : DemandKey) :
    (c.raise k).s.pending = c.s.pending ∧ (c.raise k).s.running = c.s.running ∧ (c.raise k).s.now = c.s.now ∧
    (c.raise k).s.settings = c.s.settings ∧ (c.raise k).s.line = c.s.line ∧ (c.raise k).s.secs = c.s.secs ∧
    (c.raise k).s.trk = c.s.trk ∧ (c.raise k).s.pred = c.s.pred ∧ (c.raise k).s.flt = c.s.flt ∧
    (c.raise k).s.queue = c.s.queue ∧ (c.raise k).s.link = c.s.link ∧ (c.raise k).s.cmd = c.s.cmd ∧
    (c.raise k).s.img = c.s.img ∧ (c.raise k).s.ldr = c.s.ldr ∧ (c.raise k).exit = c.exit := by
  and_intros <;> simp only [Ctx.raise] <;> (repeat' split) <;> simp

@[simp] theorem Ctx.withdraw_frame (c : Ctx) (k : DemandKey) :
    (c.withdraw k).s.pending = c.s.pending ∧ (c.withdraw k).s.running = c.s.running ∧ (c.withdraw k).s.now = c.s.now ∧
    (c.withdraw k).s.settings = c.s.settings ∧ (c.withdraw k).s.line = c.s.line ∧ (c.withdraw k).s.secs = c.s.secs ∧
    (c.withdraw k).s.trk = c.s.trk ∧ (c.withdraw k).s.pred = c.s.pred ∧ (c.withdraw k).s.flt = c.s.flt ∧
    (c.withdraw k).s.queue = c.s.queue ∧ (c.withdraw k).s.link = c.s.link ∧ (c.withdraw k).s.cmd = c.s.cmd ∧
    (c.withdraw k).s.img = c.s.img ∧ (c.withdraw k).s.ldr = c.s.ldr ∧ (c.withdraw k).exit = c.exit := by
  and_intros <;> simp only [Ctx.withdraw] <;> (repeat' split) <;> simp

@[simp] theorem Ctx.demand_frame (c : Ctx) (k : DemandKey) (b : Bool) :
    (c.demand k b).s.pending = c.s.pending ∧ (c.demand k b).s.running = c.s.running ∧ (c.demand k b).s.now = c.s.now ∧
    (c.demand k b).s.settings = c.s.settings ∧ (c.demand k b).s.line = c.s.line ∧ (c.demand k b).s.secs = c.s.secs ∧
    (c.demand k b).s.trk = c.s.trk ∧ (c.demand k b).s.pred = c.s.pred ∧ (c.demand k b).s.flt = c.s.flt ∧
    (c.demand k b).s.queue = c.s.queue ∧ (c.demand k b).s.link = c.s.link ∧ (c.demand k b).s.cmd = c.s.cmd ∧
    (c.demand k b).s.img = c.s.img ∧ (c.demand k b).s.ldr = c.s.ldr ∧ (c.demand k b).exit = c.exit := by
  and_intros <;> simp only [Ctx.demand] <;> (repeat' split) <;> simp

@[simp] theorem Ctx.syncDemand_frame (c : Ctx) (i : Slot) :
    (c.syncDemand i).s.pending = c.s.pending ∧ (c.syncDemand i).s.running = c.s.running ∧
    (c.syncDemand i).s.now = c.s.now ∧ (c.syncDemand i).s.settings = c.s.settings ∧
    (c.syncDemand i).s.line = c.s.line ∧ (c.syncDemand i).s.secs = c.s.secs ∧ (c.syncDemand i).s.trk = c.s.trk ∧
    (c.syncDemand i).s.pred = c.s.pred ∧ (c.syncDemand i).s.flt = c.s.flt ∧ (c.syncDemand i).s.queue = c.s.queue ∧
    (c.syncDemand i).s.link = c.s.link ∧ (c.syncDemand i).s.cmd = c.s.cmd ∧ (c.syncDemand i).s.img = c.s.img ∧
    (c.syncDemand i).s.ldr = c.s.ldr ∧ (c.syncDemand i).exit = c.exit := by
  simp [Ctx.syncDemand]

@[simp] theorem Ctx.exitNotice_frame (c : Ctx) (x : ExitCause) :
    (c.exitNotice x).s.pending = c.s.pending ∧ (c.exitNotice x).s.running = c.s.running ∧
    (c.exitNotice x).s.now = c.s.now ∧ (c.exitNotice x).s.settings = c.s.settings ∧
    (c.exitNotice x).s.line = c.s.line ∧ (c.exitNotice x).s.secs = c.s.secs ∧ (c.exitNotice x).s.trk = c.s.trk ∧
    (c.exitNotice x).s.pred = c.s.pred ∧ (c.exitNotice x).s.seq = c.s.seq ∧ (c.exitNotice x).s.prv = c.s.prv ∧
    (c.exitNotice x).s.flt = c.s.flt ∧ (c.exitNotice x).s.queue = c.s.queue ∧ (c.exitNotice x).s.link = c.s.link ∧
    (c.exitNotice x).s.cmd = c.s.cmd ∧ (c.exitNotice x).s.img = c.s.img := by
  and_intros <;> simp only [Ctx.exitNotice] <;> (repeat' split) <;> simp

@[simp] theorem Ctx.takeExit_frame (c : Ctx) :
    (c.takeExit).s.pending = c.s.pending ∧ (c.takeExit).s.running = c.s.running ∧ (c.takeExit).s.now = c.s.now ∧
    (c.takeExit).s.settings = c.s.settings ∧ (c.takeExit).s.line = c.s.line ∧ (c.takeExit).s.secs = c.s.secs ∧
    (c.takeExit).s.trk = c.s.trk ∧ (c.takeExit).s.pred = c.s.pred ∧ (c.takeExit).s.flt = c.s.flt ∧
    (c.takeExit).s.queue = c.s.queue ∧ (c.takeExit).s.link = c.s.link ∧ (c.takeExit).s.cmd = c.s.cmd ∧
    (c.takeExit).s.img = c.s.img ∧ (c.takeExit).s.ldr = c.s.ldr := by
  and_intros <;> simp only [Ctx.takeExit] <;> (repeat' split) <;> simp

@[simp] theorem Ctx.deriveClosure_frame (c : Ctx) :
    (c.deriveClosure).s.pending = c.s.pending ∧ (c.deriveClosure).s.running = c.s.running ∧
    (c.deriveClosure).s.now = c.s.now ∧ (c.deriveClosure).s.settings = c.s.settings ∧
    (c.deriveClosure).s.line = c.s.line ∧ (c.deriveClosure).s.secs = c.s.secs ∧ (c.deriveClosure).s.trk = c.s.trk ∧
    (c.deriveClosure).s.pred = c.s.pred ∧ (c.deriveClosure).s.prv = c.s.prv ∧ (c.deriveClosure).s.flt = c.s.flt ∧
    (c.deriveClosure).s.queue = c.s.queue ∧ (c.deriveClosure).s.link = c.s.link ∧ (c.deriveClosure).s.cmd = c.s.cmd ∧
    (c.deriveClosure).s.img = c.s.img ∧ (c.deriveClosure).s.ldr = c.s.ldr ∧ (c.deriveClosure).exit = c.exit := by
  and_intros <;> simp only [Ctx.deriveClosure] <;> (repeat' split) <;> simp

@[simp] theorem Ctx.deriveIndicator_frame (c : Ctx) (k : Track) :
    (c.deriveIndicator k).s.pending = c.s.pending ∧ (c.deriveIndicator k).s.running = c.s.running ∧
    (c.deriveIndicator k).s.now = c.s.now ∧ (c.deriveIndicator k).s.settings = c.s.settings ∧
    (c.deriveIndicator k).s.line = c.s.line ∧ (c.deriveIndicator k).s.secs = c.s.secs ∧
    (c.deriveIndicator k).s.pred = c.s.pred ∧ (c.deriveIndicator k).s.flt = c.s.flt ∧
    (c.deriveIndicator k).s.queue = c.s.queue ∧ (c.deriveIndicator k).s.link = c.s.link ∧
    (c.deriveIndicator k).s.bus = c.s.bus ∧ (c.deriveIndicator k).s.cmd = c.s.cmd ∧
    (c.deriveIndicator k).s.img = c.s.img ∧ (c.deriveIndicator k).s.ldr = c.s.ldr ∧
    (c.deriveIndicator k).exit = c.exit := by
  simp [Ctx.deriveIndicator]

@[simp] theorem Ctx.finish_frame (c : Ctx) :
    (c.finish).s.pending = c.s.pending ∧ (c.finish).s.running = c.s.running ∧ (c.finish).s.now = c.s.now ∧
    (c.finish).s.settings = c.s.settings ∧ (c.finish).s.line = c.s.line ∧ (c.finish).s.secs = c.s.secs ∧
    (c.finish).s.pred = c.s.pred ∧ (c.finish).s.link = c.s.link ∧ (c.finish).s.cmd = c.s.cmd ∧
    (c.finish).s.img = c.s.img ∧ (c.finish).s.ldr = c.s.ldr := by
  simp [Ctx.finish]

end Sys2Proof.Machine
end

