-- ==== Sys2Proof/Laws/TrackerFrames.lean ====
section
/-! SUPPORT. What the operations of Prediction and Counting leave alone, one lemma for each operation. -/

namespace Sys2Proof.Machine

@[simp] theorem Ctx.setRec_frame (c : Ctx) (i : Slot) (r : Option TrainRec) :
    (c.setRec i r).s.pending = c.s.pending ∧ (c.setRec i r).s.running = c.s.running ∧ (c.setRec i r).s.now = c.s.now ∧
    (c.setRec i r).s.settings = c.s.settings ∧ (c.setRec i r).s.line = c.s.line ∧ (c.setRec i r).s.secs = c.s.secs ∧
    (c.setRec i r).s.pred = c.s.pred ∧ (c.setRec i r).s.seq = c.s.seq ∧ (c.setRec i r).s.prv = c.s.prv ∧
    (c.setRec i r).s.flt = c.s.flt ∧ (c.setRec i r).s.queue = c.s.queue ∧ (c.setRec i r).s.link = c.s.link ∧
    (c.setRec i r).s.bus = c.s.bus ∧ (c.setRec i r).s.cmd = c.s.cmd ∧ (c.setRec i r).s.img = c.s.img ∧
    (c.setRec i r).s.ldr = c.s.ldr ∧ (c.setRec i r).exit = c.exit := by
  simp [Ctx.setRec]

@[simp] theorem Ctx.modRec_frame (c : Ctx) (i : Slot) (f : TrainRec → TrainRec) :
    (c.modRec i f).s.pending = c.s.pending ∧ (c.modRec i f).s.running = c.s.running ∧ (c.modRec i f).s.now = c.s.now ∧
    (c.modRec i f).s.settings = c.s.settings ∧ (c.modRec i f).s.line = c.s.line ∧ (c.modRec i f).s.secs = c.s.secs ∧
    (c.modRec i f).s.pred = c.s.pred ∧ (c.modRec i f).s.seq = c.s.seq ∧ (c.modRec i f).s.prv = c.s.prv ∧
    (c.modRec i f).s.flt = c.s.flt ∧ (c.modRec i f).s.queue = c.s.queue ∧ (c.modRec i f).s.link = c.s.link ∧
    (c.modRec i f).s.bus = c.s.bus ∧ (c.modRec i f).s.cmd = c.s.cmd ∧ (c.modRec i f).s.img = c.s.img ∧
    (c.modRec i f).s.ldr = c.s.ldr ∧ (c.modRec i f).exit = c.exit := by
  simp [Ctx.modRec]

@[simp] theorem Ctx.overdue_frame (c : Ctx) (i : Slot) :
    (c.overdue i).s.pending = c.s.pending ∧ (c.overdue i).s.running = c.s.running ∧ (c.overdue i).s.now = c.s.now ∧
    (c.overdue i).s.settings = c.s.settings ∧ (c.overdue i).s.line = c.s.line ∧ (c.overdue i).s.secs = c.s.secs ∧
    (c.overdue i).s.pred = c.s.pred ∧ (c.overdue i).s.seq = c.s.seq ∧ (c.overdue i).s.prv = c.s.prv ∧
    (c.overdue i).s.flt = c.s.flt ∧ (c.overdue i).s.queue = c.s.queue ∧ (c.overdue i).s.link = c.s.link ∧
    (c.overdue i).s.cmd = c.s.cmd ∧ (c.overdue i).s.img = c.s.img ∧ (c.overdue i).s.ldr = c.s.ldr ∧
    (c.overdue i).exit = c.exit := by
  and_intros <;> simp only [Ctx.overdue] <;> (repeat' split) <;> simp

@[simp] theorem Ctx.settleRecord_frame (c : Ctx) (o : Option TrainRec) (i : Slot) :
    (c.settleRecord o i).s.pending = c.s.pending ∧ (c.settleRecord o i).s.running = c.s.running ∧
    (c.settleRecord o i).s.now = c.s.now ∧ (c.settleRecord o i).s.settings = c.s.settings ∧
    (c.settleRecord o i).s.line = c.s.line ∧ (c.settleRecord o i).s.secs = c.s.secs ∧
    (c.settleRecord o i).s.trk = c.s.trk ∧ (c.settleRecord o i).s.pred = c.s.pred ∧
    (c.settleRecord o i).s.flt = c.s.flt ∧ (c.settleRecord o i).s.queue = c.s.queue ∧
    (c.settleRecord o i).s.link = c.s.link ∧ (c.settleRecord o i).s.cmd = c.s.cmd ∧
    (c.settleRecord o i).s.img = c.s.img ∧ (c.settleRecord o i).s.ldr = c.s.ldr ∧ (c.settleRecord o i).exit = c.exit := by
  and_intros <;> simp only [Ctx.settleRecord] <;> (repeat' split) <;> simp

@[simp] theorem Ctx.stagePrediction_frame (c : Ctx) (i : Slot) (x : PredResult) (b : Bool) :
    (c.stagePrediction i x b).s.pending = c.s.pending ∧ (c.stagePrediction i x b).s.running = c.s.running ∧
    (c.stagePrediction i x b).s.now = c.s.now ∧ (c.stagePrediction i x b).s.settings = c.s.settings ∧
    (c.stagePrediction i x b).s.line = c.s.line ∧ (c.stagePrediction i x b).s.secs = c.s.secs ∧
    (c.stagePrediction i x b).s.trk = c.s.trk ∧ (c.stagePrediction i x b).s.pred = c.s.pred ∧
    (c.stagePrediction i x b).s.seq = c.s.seq ∧ (c.stagePrediction i x b).s.prv = c.s.prv ∧
    (c.stagePrediction i x b).s.flt = c.s.flt ∧ (c.stagePrediction i x b).s.queue = c.s.queue ∧
    (c.stagePrediction i x b).s.link = c.s.link ∧ (c.stagePrediction i x b).s.cmd = c.s.cmd ∧
    (c.stagePrediction i x b).s.img = c.s.img ∧ (c.stagePrediction i x b).s.ldr = c.s.ldr ∧
    (c.stagePrediction i x b).exit = c.exit := by
  and_intros <;> simp only [Ctx.stagePrediction] <;> (repeat' split) <;> simp

@[simp] theorem Ctx.speedUnknown_frame (c : Ctx) (i : Slot) (t : Time) (x : PredResult) :
    (c.speedUnknown i t x).s.pending = c.s.pending ∧ (c.speedUnknown i t x).s.running = c.s.running ∧
    (c.speedUnknown i t x).s.now = c.s.now ∧ (c.speedUnknown i t x).s.settings = c.s.settings ∧
    (c.speedUnknown i t x).s.line = c.s.line ∧ (c.speedUnknown i t x).s.secs = c.s.secs ∧
    (c.speedUnknown i t x).s.pred = c.s.pred ∧ (c.speedUnknown i t x).s.seq = c.s.seq ∧
    (c.speedUnknown i t x).s.prv = c.s.prv ∧ (c.speedUnknown i t x).s.flt = c.s.flt ∧
    (c.speedUnknown i t x).s.queue = c.s.queue ∧ (c.speedUnknown i t x).s.link = c.s.link ∧
    (c.speedUnknown i t x).s.cmd = c.s.cmd ∧ (c.speedUnknown i t x).s.img = c.s.img ∧
    (c.speedUnknown i t x).s.ldr = c.s.ldr ∧ (c.speedUnknown i t x).exit = c.exit := by
  simp [Ctx.speedUnknown]

@[simp] theorem Ctx.request_frame (c : Ctx) (i : Slot) (a b : Nat) :
    (c.request i a b).s.pending = c.s.pending ∧ (c.request i a b).s.running = c.s.running ∧
    (c.request i a b).s.now = c.s.now ∧ (c.request i a b).s.settings = c.s.settings ∧
    (c.request i a b).s.line = c.s.line ∧ (c.request i a b).s.secs = c.s.secs ∧ (c.request i a b).s.seq = c.s.seq ∧
    (c.request i a b).s.prv = c.s.prv ∧ (c.request i a b).s.flt = c.s.flt ∧ (c.request i a b).s.queue = c.s.queue ∧
    (c.request i a b).s.link = c.s.link ∧ (c.request i a b).s.cmd = c.s.cmd ∧ (c.request i a b).s.img = c.s.img ∧
    (c.request i a b).s.ldr = c.s.ldr ∧ (c.request i a b).exit = c.exit := by
  and_intros <;> simp only [Ctx.request] <;> (repeat' split) <;> simp

@[simp] theorem Ctx.sample_frame (c : Ctx) (i : Slot) (b : Bool) (w : Word) (t : Time) :
    (c.sample i b w t).s.pending = c.s.pending ∧ (c.sample i b w t).s.running = c.s.running ∧
    (c.sample i b w t).s.now = c.s.now ∧ (c.sample i b w t).s.settings = c.s.settings ∧
    (c.sample i b w t).s.line = c.s.line ∧ (c.sample i b w t).s.secs = c.s.secs ∧ (c.sample i b w t).s.seq = c.s.seq ∧
    (c.sample i b w t).s.prv = c.s.prv ∧ (c.sample i b w t).s.flt = c.s.flt ∧ (c.sample i b w t).s.queue = c.s.queue ∧
    (c.sample i b w t).s.link = c.s.link ∧ (c.sample i b w t).s.cmd = c.s.cmd ∧ (c.sample i b w t).s.img = c.s.img ∧
    (c.sample i b w t).s.ldr = c.s.ldr ∧ (c.sample i b w t).exit = c.exit := by
  and_intros <;> simp only [Ctx.sample] <;> (repeat' split) <;> simp

@[simp] theorem Ctx.applyResult_frame (c : Ctx) (r : Request) :
    (c.applyResult r).s.pending = c.s.pending ∧ (c.applyResult r).s.running = c.s.running ∧
    (c.applyResult r).s.now = c.s.now ∧ (c.applyResult r).s.settings = c.s.settings ∧
    (c.applyResult r).s.line = c.s.line ∧ (c.applyResult r).s.secs = c.s.secs ∧ (c.applyResult r).s.pred = c.s.pred ∧
    (c.applyResult r).s.flt = c.s.flt ∧ (c.applyResult r).s.queue = c.s.queue ∧ (c.applyResult r).s.link = c.s.link ∧
    (c.applyResult r).s.cmd = c.s.cmd ∧ (c.applyResult r).s.img = c.s.img ∧ (c.applyResult r).s.ldr = c.s.ldr ∧
    (c.applyResult r).exit = c.exit := by
  simp [Ctx.applyResult]

@[simp] theorem Ctx.complete_frame (c : Ctx) (r : Request) :
    (c.complete r).s.pending = c.s.pending ∧ (c.complete r).s.running = c.s.running ∧ (c.complete r).s.now = c.s.now ∧
    (c.complete r).s.settings = c.s.settings ∧ (c.complete r).s.line = c.s.line ∧ (c.complete r).s.secs = c.s.secs ∧
    (c.complete r).s.flt = c.s.flt ∧ (c.complete r).s.queue = c.s.queue ∧ (c.complete r).s.link = c.s.link ∧
    (c.complete r).s.cmd = c.s.cmd ∧ (c.complete r).s.img = c.s.img ∧ (c.complete r).s.ldr = c.s.ldr ∧
    (c.complete r).exit = c.exit := by
  and_intros <;> simp only [Ctx.complete] <;> (repeat' split) <;> simp

@[simp] theorem Ctx.modSecs_frame (c : Ctx) (f : Vector SecRec 6 → Vector SecRec 6) :
    (c.modSecs f).s.pending = c.s.pending ∧ (c.modSecs f).s.running = c.s.running ∧ (c.modSecs f).s.now = c.s.now ∧
    (c.modSecs f).s.settings = c.s.settings ∧ (c.modSecs f).s.line = c.s.line ∧ (c.modSecs f).s.trk = c.s.trk ∧
    (c.modSecs f).s.pred = c.s.pred ∧ (c.modSecs f).s.seq = c.s.seq ∧ (c.modSecs f).s.prv = c.s.prv ∧
    (c.modSecs f).s.flt = c.s.flt ∧ (c.modSecs f).s.queue = c.s.queue ∧ (c.modSecs f).s.link = c.s.link ∧
    (c.modSecs f).s.bus = c.s.bus ∧ (c.modSecs f).s.cmd = c.s.cmd ∧ (c.modSecs f).s.img = c.s.img ∧
    (c.modSecs f).s.ldr = c.s.ldr ∧ (c.modSecs f).exit = c.exit := by
  simp [Ctx.modSecs]

@[simp] theorem Ctx.setSection_frame (c : Ctx) (i : Sec) (x : SecRec) (y : SecCause) :
    (c.setSection i x y).s.pending = c.s.pending ∧ (c.setSection i x y).s.running = c.s.running ∧
    (c.setSection i x y).s.now = c.s.now ∧ (c.setSection i x y).s.settings = c.s.settings ∧
    (c.setSection i x y).s.line = c.s.line ∧ (c.setSection i x y).s.trk = c.s.trk ∧
    (c.setSection i x y).s.pred = c.s.pred ∧ (c.setSection i x y).s.seq = c.s.seq ∧
    (c.setSection i x y).s.prv = c.s.prv ∧ (c.setSection i x y).s.flt = c.s.flt ∧
    (c.setSection i x y).s.queue = c.s.queue ∧ (c.setSection i x y).s.link = c.s.link ∧
    (c.setSection i x y).s.cmd = c.s.cmd ∧ (c.setSection i x y).s.img = c.s.img := by
  and_intros <;> simp only [Ctx.setSection] <;> (repeat' split) <;> simp

@[simp] theorem Ctx.disturb_frame (c : Ctx) (i : Sec) (w : Reason) (h : Head) :
    (c.disturb i w h).s.pending = c.s.pending ∧ (c.disturb i w h).s.running = c.s.running ∧
    (c.disturb i w h).s.now = c.s.now ∧ (c.disturb i w h).s.settings = c.s.settings ∧
    (c.disturb i w h).s.line = c.s.line ∧ (c.disturb i w h).s.pred = c.s.pred ∧ (c.disturb i w h).s.seq = c.s.seq ∧
    (c.disturb i w h).s.prv = c.s.prv ∧ (c.disturb i w h).s.flt = c.s.flt ∧ (c.disturb i w h).s.queue = c.s.queue ∧
    (c.disturb i w h).s.link = c.s.link ∧ (c.disturb i w h).s.cmd = c.s.cmd ∧ (c.disturb i w h).s.img = c.s.img := by
  simp [Ctx.disturb]

@[simp] theorem Ctx.setCount_frame (c : Ctx) (i : Sec) (n : Nat) (h : Head) :
    (c.setCount i n h).s.pending = c.s.pending ∧ (c.setCount i n h).s.running = c.s.running ∧
    (c.setCount i n h).s.now = c.s.now ∧ (c.setCount i n h).s.settings = c.s.settings ∧
    (c.setCount i n h).s.line = c.s.line ∧ (c.setCount i n h).s.trk = c.s.trk ∧ (c.setCount i n h).s.pred = c.s.pred ∧
    (c.setCount i n h).s.seq = c.s.seq ∧ (c.setCount i n h).s.prv = c.s.prv ∧ (c.setCount i n h).s.flt = c.s.flt ∧
    (c.setCount i n h).s.queue = c.s.queue ∧ (c.setCount i n h).s.link = c.s.link ∧
    (c.setCount i n h).s.cmd = c.s.cmd ∧ (c.setCount i n h).s.img = c.s.img := by
  and_intros <;> simp only [Ctx.setCount] <;> (repeat' split) <;> simp

@[simp] theorem Ctx.settle_frame (c : Ctx) (g : Gone) (i : Slot) :
    (c.settle g i).s.pending = c.s.pending ∧ (c.settle g i).s.running = c.s.running ∧ (c.settle g i).s.now = c.s.now ∧
    (c.settle g i).s.settings = c.s.settings ∧ (c.settle g i).s.line = c.s.line ∧ (c.settle g i).s.secs = c.s.secs ∧
    (c.settle g i).s.pred = c.s.pred ∧ (c.settle g i).s.seq = c.s.seq ∧ (c.settle g i).s.prv = c.s.prv ∧
    (c.settle g i).s.flt = c.s.flt ∧ (c.settle g i).s.queue = c.s.queue ∧ (c.settle g i).s.link = c.s.link ∧
    (c.settle g i).s.cmd = c.s.cmd ∧ (c.settle g i).s.img = c.s.img ∧ (c.settle g i).s.ldr = c.s.ldr ∧
    (c.settle g i).exit = c.exit := by
  and_intros <;> simp only [Ctx.settle] <;> (repeat' split) <;> simp

@[simp] theorem Ctx.disturbAndDrop_frame (c : Ctx) (i : Sec) (w : Reason) (h : Head) :
    (c.disturbAndDrop i w h).s.pending = c.s.pending ∧ (c.disturbAndDrop i w h).s.running = c.s.running ∧
    (c.disturbAndDrop i w h).s.now = c.s.now ∧ (c.disturbAndDrop i w h).s.settings = c.s.settings ∧
    (c.disturbAndDrop i w h).s.line = c.s.line ∧ (c.disturbAndDrop i w h).s.pred = c.s.pred ∧
    (c.disturbAndDrop i w h).s.seq = c.s.seq ∧ (c.disturbAndDrop i w h).s.prv = c.s.prv ∧
    (c.disturbAndDrop i w h).s.flt = c.s.flt ∧ (c.disturbAndDrop i w h).s.queue = c.s.queue ∧
    (c.disturbAndDrop i w h).s.link = c.s.link ∧ (c.disturbAndDrop i w h).s.cmd = c.s.cmd ∧
    (c.disturbAndDrop i w h).s.img = c.s.img := by
  simp [Ctx.disturbAndDrop]

@[simp] theorem Ctx.reportGained_frame (c : Ctx) (o : Tracker) (i : Slot) :
    (c.reportGained o i).s.pending = c.s.pending ∧ (c.reportGained o i).s.running = c.s.running ∧
    (c.reportGained o i).s.now = c.s.now ∧ (c.reportGained o i).s.settings = c.s.settings ∧
    (c.reportGained o i).s.line = c.s.line ∧ (c.reportGained o i).s.secs = c.s.secs ∧
    (c.reportGained o i).s.trk = c.s.trk ∧ (c.reportGained o i).s.pred = c.s.pred ∧
    (c.reportGained o i).s.seq = c.s.seq ∧ (c.reportGained o i).s.prv = c.s.prv ∧
    (c.reportGained o i).s.flt = c.s.flt ∧ (c.reportGained o i).s.queue = c.s.queue ∧
    (c.reportGained o i).s.link = c.s.link ∧ (c.reportGained o i).s.bus = c.s.bus ∧
    (c.reportGained o i).s.cmd = c.s.cmd ∧ (c.reportGained o i).s.img = c.s.img ∧
    (c.reportGained o i).s.ldr = c.s.ldr ∧ (c.reportGained o i).exit = c.exit := by
  and_intros <;> simp only [Ctx.reportGained] <;> (repeat' split) <;> simp

@[simp] theorem Ctx.closeTracker_frame (c : Ctx) (o : Tracker) :
    (c.closeTracker o).s.pending = c.s.pending ∧ (c.closeTracker o).s.running = c.s.running ∧
    (c.closeTracker o).s.now = c.s.now ∧ (c.closeTracker o).s.settings = c.s.settings ∧
    (c.closeTracker o).s.line = c.s.line ∧ (c.closeTracker o).s.secs = c.s.secs ∧
    (c.closeTracker o).s.pred = c.s.pred ∧ (c.closeTracker o).s.flt = c.s.flt ∧
    (c.closeTracker o).s.queue = c.s.queue ∧ (c.closeTracker o).s.link = c.s.link ∧
    (c.closeTracker o).s.cmd = c.s.cmd ∧ (c.closeTracker o).s.img = c.s.img ∧ (c.closeTracker o).s.ldr = c.s.ldr ∧
    (c.closeTracker o).exit = c.exit := by
  and_intros <;> simp only [Ctx.closeTracker] <;> (repeat' split) <;> simp

@[simp] theorem Ctx.takeHead_frame (c : Ctx) (o : OutcomeRec) :
    (c.takeHead o).s.pending = c.s.pending ∧ (c.takeHead o).s.running = c.s.running ∧ (c.takeHead o).s.now = c.s.now ∧
    (c.takeHead o).s.settings = c.s.settings ∧ (c.takeHead o).s.secs = c.s.secs ∧ (c.takeHead o).s.trk = c.s.trk ∧
    (c.takeHead o).s.pred = c.s.pred ∧ (c.takeHead o).s.seq = c.s.seq ∧ (c.takeHead o).s.prv = c.s.prv ∧
    (c.takeHead o).s.flt = c.s.flt ∧ (c.takeHead o).s.queue = c.s.queue ∧ (c.takeHead o).s.link = c.s.link ∧
    (c.takeHead o).s.cmd = c.s.cmd ∧ (c.takeHead o).s.img = c.s.img ∧ (c.takeHead o).s.ldr = c.s.ldr ∧
    (c.takeHead o).exit = c.exit := by
  and_intros <;> simp only [Ctx.takeHead] <;> (repeat' split) <;> simp

@[simp] theorem Ctx.takeSections_frame (c : Ctx) (o : OutcomeRec) (b : Bool) :
    (c.takeSections o b).s.pending = c.s.pending ∧ (c.takeSections o b).s.running = c.s.running ∧
    (c.takeSections o b).s.now = c.s.now ∧ (c.takeSections o b).s.settings = c.s.settings ∧
    (c.takeSections o b).s.line = c.s.line ∧ (c.takeSections o b).s.pred = c.s.pred ∧
    (c.takeSections o b).s.seq = c.s.seq ∧ (c.takeSections o b).s.prv = c.s.prv ∧
    (c.takeSections o b).s.flt = c.s.flt ∧ (c.takeSections o b).s.queue = c.s.queue ∧
    (c.takeSections o b).s.link = c.s.link ∧ (c.takeSections o b).s.cmd = c.s.cmd ∧
    (c.takeSections o b).s.img = c.s.img := by
  and_intros <;> simp only [Ctx.takeSections] <;> (repeat' split) <;> simp

@[simp] theorem Ctx.form_frame (c : Ctx) (i : Slot) (r : TrainRec) (e : Sec) (n : NewCause) :
    (c.form i r e n).s.pending = c.s.pending ∧ (c.form i r e n).s.running = c.s.running ∧
    (c.form i r e n).s.now = c.s.now ∧ (c.form i r e n).s.settings = c.s.settings ∧
    (c.form i r e n).s.line = c.s.line ∧ (c.form i r e n).s.secs = c.s.secs ∧ (c.form i r e n).s.pred = c.s.pred ∧
    (c.form i r e n).s.seq = c.s.seq ∧ (c.form i r e n).s.prv = c.s.prv ∧ (c.form i r e n).s.flt = c.s.flt ∧
    (c.form i r e n).s.queue = c.s.queue ∧ (c.form i r e n).s.link = c.s.link ∧ (c.form i r e n).s.cmd = c.s.cmd ∧
    (c.form i r e n).s.img = c.s.img := by
  simp [Ctx.form]

@[simp] theorem Ctx.receive_frame (c : Ctx) (i : Sec) (l : Taken) :
    (c.receive i l).s.pending = c.s.pending ∧ (c.receive i l).s.running = c.s.running ∧
    (c.receive i l).s.now = c.s.now ∧ (c.receive i l).s.settings = c.s.settings ∧ (c.receive i l).s.line = c.s.line ∧
    (c.receive i l).s.secs = c.s.secs ∧ (c.receive i l).s.pred = c.s.pred ∧ (c.receive i l).s.seq = c.s.seq ∧
    (c.receive i l).s.prv = c.s.prv ∧ (c.receive i l).s.flt = c.s.flt ∧ (c.receive i l).s.queue = c.s.queue ∧
    (c.receive i l).s.link = c.s.link ∧ (c.receive i l).s.bus = c.s.bus ∧ (c.receive i l).s.cmd = c.s.cmd ∧
    (c.receive i l).s.img = c.s.img ∧ (c.receive i l).s.ldr = c.s.ldr ∧ (c.receive i l).exit = c.exit := by
  simp [Ctx.receive]

@[simp] theorem Ctx.settleAll_frame (c : Ctx) (g : Gone) (k : Track) (l : List Slot) :
    (c.settleAll g k l).s.pending = c.s.pending ∧ (c.settleAll g k l).s.running = c.s.running ∧
    (c.settleAll g k l).s.now = c.s.now ∧ (c.settleAll g k l).s.settings = c.s.settings ∧
    (c.settleAll g k l).s.line = c.s.line ∧ (c.settleAll g k l).s.secs = c.s.secs ∧
    (c.settleAll g k l).s.pred = c.s.pred ∧ (c.settleAll g k l).s.seq = c.s.seq ∧
    (c.settleAll g k l).s.prv = c.s.prv ∧ (c.settleAll g k l).s.flt = c.s.flt ∧
    (c.settleAll g k l).s.queue = c.s.queue ∧ (c.settleAll g k l).s.link = c.s.link ∧
    (c.settleAll g k l).s.cmd = c.s.cmd ∧ (c.settleAll g k l).s.img = c.s.img ∧ (c.settleAll g k l).s.ldr = c.s.ldr ∧
    (c.settleAll g k l).exit = c.exit := by
  simp [Ctx.settleAll]

@[simp] theorem Ctx.refuseEntry_frame (c : Ctx) (i : Sec) (w : Reason) (m : Movement) (x : Wheels) :
    (c.refuseEntry i w m x).s.pending = c.s.pending ∧ (c.refuseEntry i w m x).s.running = c.s.running ∧
    (c.refuseEntry i w m x).s.now = c.s.now ∧ (c.refuseEntry i w m x).s.settings = c.s.settings ∧
    (c.refuseEntry i w m x).s.line = c.s.line ∧ (c.refuseEntry i w m x).s.pred = c.s.pred ∧
    (c.refuseEntry i w m x).s.seq = c.s.seq ∧ (c.refuseEntry i w m x).s.prv = c.s.prv ∧
    (c.refuseEntry i w m x).s.flt = c.s.flt ∧ (c.refuseEntry i w m x).s.queue = c.s.queue ∧
    (c.refuseEntry i w m x).s.link = c.s.link ∧ (c.refuseEntry i w m x).s.cmd = c.s.cmd ∧
    (c.refuseEntry i w m x).s.img = c.s.img := by
  simp [Ctx.refuseEntry]

@[simp] theorem Ctx.strikeIn_frame (c : Ctx) (i : Sec) (n : Nat) (m : Movement) :
    (c.strikeIn i n m).s.pending = c.s.pending ∧ (c.strikeIn i n m).s.running = c.s.running ∧
    (c.strikeIn i n m).s.now = c.s.now ∧ (c.strikeIn i n m).s.settings = c.s.settings ∧
    (c.strikeIn i n m).s.line = c.s.line ∧ (c.strikeIn i n m).s.seq = c.s.seq ∧ (c.strikeIn i n m).s.prv = c.s.prv ∧
    (c.strikeIn i n m).s.flt = c.s.flt ∧ (c.strikeIn i n m).s.queue = c.s.queue ∧
    (c.strikeIn i n m).s.link = c.s.link ∧ (c.strikeIn i n m).s.cmd = c.s.cmd ∧ (c.strikeIn i n m).s.img = c.s.img := by
  and_intros <;> simp only [Ctx.strikeIn] <;> (repeat' split) <;> simp

@[simp] theorem Ctx.emerge_frame (c : Ctx) (i : Sec) (n : Nat) (m : Movement) :
    (c.emerge i n m).s.pending = c.s.pending ∧ (c.emerge i n m).s.running = c.s.running ∧
    (c.emerge i n m).s.now = c.s.now ∧ (c.emerge i n m).s.settings = c.s.settings ∧
    (c.emerge i n m).s.line = c.s.line ∧ (c.emerge i n m).s.pred = c.s.pred ∧ (c.emerge i n m).s.seq = c.s.seq ∧
    (c.emerge i n m).s.prv = c.s.prv ∧ (c.emerge i n m).s.flt = c.s.flt ∧ (c.emerge i n m).s.queue = c.s.queue ∧
    (c.emerge i n m).s.link = c.s.link ∧ (c.emerge i n m).s.cmd = c.s.cmd ∧ (c.emerge i n m).s.img = c.s.img := by
  and_intros <;> simp only [Ctx.emerge] <;> (repeat' split) <;> simp

@[simp] theorem Ctx.enter_frame (c : Ctx) (m : Movement) (w : Wheels) :
    (c.enter m w).s.pending = c.s.pending ∧ (c.enter m w).s.running = c.s.running ∧ (c.enter m w).s.now = c.s.now ∧
    (c.enter m w).s.settings = c.s.settings ∧ (c.enter m w).s.line = c.s.line ∧ (c.enter m w).s.seq = c.s.seq ∧
    (c.enter m w).s.prv = c.s.prv ∧ (c.enter m w).s.flt = c.s.flt ∧ (c.enter m w).s.queue = c.s.queue ∧
    (c.enter m w).s.link = c.s.link ∧ (c.enter m w).s.cmd = c.s.cmd ∧ (c.enter m w).s.img = c.s.img := by
  and_intros <;> simp only [Ctx.enter] <;> (repeat' split) <;> simp

@[simp] theorem Ctx.leave_frame (c : Ctx) (m : Movement) :
    ((c.leave m).1).s.pending = c.s.pending ∧ ((c.leave m).1).s.running = c.s.running ∧
    ((c.leave m).1).s.now = c.s.now ∧ ((c.leave m).1).s.settings = c.s.settings ∧ ((c.leave m).1).s.line = c.s.line ∧
    ((c.leave m).1).s.pred = c.s.pred ∧ ((c.leave m).1).s.seq = c.s.seq ∧ ((c.leave m).1).s.prv = c.s.prv ∧
    ((c.leave m).1).s.flt = c.s.flt ∧ ((c.leave m).1).s.queue = c.s.queue ∧ ((c.leave m).1).s.link = c.s.link ∧
    ((c.leave m).1).s.cmd = c.s.cmd ∧ ((c.leave m).1).s.img = c.s.img := by
  and_intros <;> simp only [Ctx.leave] <;> (repeat' split) <;> simp

@[simp] theorem Ctx.pendClear_frame (c : Ctx) (h : Head) :
    (c.pendClear h).s.pending = c.s.pending ∧ (c.pendClear h).s.running = c.s.running ∧
    (c.pendClear h).s.now = c.s.now ∧ (c.pendClear h).s.settings = c.s.settings ∧ (c.pendClear h).s.secs = c.s.secs ∧
    (c.pendClear h).s.trk = c.s.trk ∧ (c.pendClear h).s.pred = c.s.pred ∧ (c.pendClear h).s.seq = c.s.seq ∧
    (c.pendClear h).s.prv = c.s.prv ∧ (c.pendClear h).s.flt = c.s.flt ∧ (c.pendClear h).s.queue = c.s.queue ∧
    (c.pendClear h).s.link = c.s.link ∧ (c.pendClear h).s.bus = c.s.bus ∧ (c.pendClear h).s.cmd = c.s.cmd ∧
    (c.pendClear h).s.img = c.s.img ∧ (c.pendClear h).s.ldr = c.s.ldr ∧ (c.pendClear h).exit = c.exit := by
  simp [Ctx.pendClear]

@[simp] theorem Ctx.restore_frame (c : Ctx) (i : Sec) :
    (c.restore i).s.pending = c.s.pending ∧ (c.restore i).s.running = c.s.running ∧ (c.restore i).s.now = c.s.now ∧
    (c.restore i).s.settings = c.s.settings ∧ (c.restore i).s.trk = c.s.trk ∧ (c.restore i).s.pred = c.s.pred ∧
    (c.restore i).s.flt = c.s.flt ∧ (c.restore i).s.queue = c.s.queue ∧ (c.restore i).s.link = c.s.link ∧
    (c.restore i).s.cmd = c.s.cmd ∧ (c.restore i).s.img = c.s.img := by
  simp [Ctx.restore]

end Sys2Proof.Machine
end

