-- ==== Sys2Proof/Laws/EventFrames.lean ====
section
/-! SUPPORT. What the operations of the link, the proving unit, the loader, the host commands and the resets leave alone. -/

namespace Sys2Proof.Machine

theorem Ctx.acknowledge_frame (c c' : Ctx) (p : Point) (w : Acker) (h : c.acknowledge p w = some c') :
    c'.s.pending = c.s.pending ∧ c'.s.running = c.s.running ∧ c'.s.now = c.s.now ∧ c'.s.settings = c.s.settings ∧
    c'.s.line = c.s.line ∧ c'.s.secs = c.s.secs ∧ c'.s.trk = c.s.trk ∧ c'.s.pred = c.s.pred ∧ c'.s.seq = c.s.seq ∧
    c'.s.prv = c.s.prv ∧ c'.s.link = c.s.link ∧ c'.s.cmd = c.s.cmd ∧ c'.s.img = c.s.img ∧ c'.s.ldr = c.s.ldr ∧
    c'.exit = c.exit := by
  unfold Ctx.acknowledge at h
  split at h
  · cases h
  · dsimp only at h
    split at h
    · cases h
    · obtain rfl := Option.some.inj h
      simp

/-- Acknowledging a point, or leaving it when it is not acknowledgeable. -/
@[simp] theorem Ctx.acknowledge_getD_frame (c : Ctx) (p : Point) (w : Acker) :
    ((c.acknowledge p w).getD c).s.pending = c.s.pending ∧ ((c.acknowledge p w).getD c).s.running = c.s.running ∧
    ((c.acknowledge p w).getD c).s.now = c.s.now ∧ ((c.acknowledge p w).getD c).s.settings = c.s.settings ∧
    ((c.acknowledge p w).getD c).s.line = c.s.line ∧ ((c.acknowledge p w).getD c).s.secs = c.s.secs ∧
    ((c.acknowledge p w).getD c).s.trk = c.s.trk ∧ ((c.acknowledge p w).getD c).s.pred = c.s.pred ∧
    ((c.acknowledge p w).getD c).s.seq = c.s.seq ∧ ((c.acknowledge p w).getD c).s.prv = c.s.prv ∧
    ((c.acknowledge p w).getD c).s.link = c.s.link ∧ ((c.acknowledge p w).getD c).s.cmd = c.s.cmd ∧
    ((c.acknowledge p w).getD c).s.img = c.s.img ∧ ((c.acknowledge p w).getD c).s.ldr = c.s.ldr ∧
    ((c.acknowledge p w).getD c).exit = c.exit := by
  cases h : c.acknowledge p w with
  | none => simp
  | some c' => simpa using Ctx.acknowledge_frame c c' p w h

@[simp] theorem Ctx.ackAll_frame (c : Ctx) :
    (c.ackAll).s.pending = c.s.pending ∧ (c.ackAll).s.running = c.s.running ∧ (c.ackAll).s.now = c.s.now ∧
    (c.ackAll).s.settings = c.s.settings ∧ (c.ackAll).s.line = c.s.line ∧ (c.ackAll).s.secs = c.s.secs ∧
    (c.ackAll).s.trk = c.s.trk ∧ (c.ackAll).s.pred = c.s.pred ∧ (c.ackAll).s.seq = c.s.seq ∧
    (c.ackAll).s.prv = c.s.prv ∧ (c.ackAll).s.link = c.s.link ∧ (c.ackAll).s.cmd = c.s.cmd ∧
    (c.ackAll).s.img = c.s.img ∧ (c.ackAll).s.ldr = c.s.ldr ∧ (c.ackAll).exit = c.exit := by
  simp [Ctx.ackAll]

@[simp] theorem Ctx.judgeBoom_frame (c : Ctx) (b : Boom) (t : Target) :
    (c.judgeBoom b t).s.pending = c.s.pending ∧ (c.judgeBoom b t).s.running = c.s.running ∧
    (c.judgeBoom b t).s.now = c.s.now ∧ (c.judgeBoom b t).s.settings = c.s.settings ∧
    (c.judgeBoom b t).s.line = c.s.line ∧ (c.judgeBoom b t).s.secs = c.s.secs ∧ (c.judgeBoom b t).s.trk = c.s.trk ∧
    (c.judgeBoom b t).s.pred = c.s.pred ∧ (c.judgeBoom b t).s.seq = c.s.seq ∧ (c.judgeBoom b t).s.flt = c.s.flt ∧
    (c.judgeBoom b t).s.queue = c.s.queue ∧ (c.judgeBoom b t).s.link = c.s.link ∧ (c.judgeBoom b t).s.bus = c.s.bus ∧
    (c.judgeBoom b t).s.cmd = c.s.cmd ∧ (c.judgeBoom b t).s.img = c.s.img ∧ (c.judgeBoom b t).s.ldr = c.s.ldr ∧
    (c.judgeBoom b t).exit = c.exit := by
  and_intros <;> simp only [Ctx.judgeBoom] <;> (repeat' split) <;> simp

@[simp] theorem Ctx.judgePoints_frame (c : Ctx) (bs : List Boom) (t : Target) :
    (c.judgePoints bs t).s.pending = c.s.pending ∧ (c.judgePoints bs t).s.running = c.s.running ∧
    (c.judgePoints bs t).s.now = c.s.now ∧ (c.judgePoints bs t).s.settings = c.s.settings ∧
    (c.judgePoints bs t).s.line = c.s.line ∧ (c.judgePoints bs t).s.secs = c.s.secs ∧
    (c.judgePoints bs t).s.trk = c.s.trk ∧ (c.judgePoints bs t).s.pred = c.s.pred ∧ (c.judgePoints bs t).s.seq = c.s.seq ∧
    (c.judgePoints bs t).s.link = c.s.link ∧ (c.judgePoints bs t).s.cmd = c.s.cmd ∧ (c.judgePoints bs t).s.img = c.s.img ∧
    (c.judgePoints bs t).s.ldr = c.s.ldr ∧ (c.judgePoints bs t).exit = c.exit := by
  simp [Ctx.judgePoints]

@[simp] theorem Ctx.judge_frame (c : Ctx) (bs : List Boom) (t : Target) :
    (c.judge bs t).s.pending = c.s.pending ∧ (c.judge bs t).s.running = c.s.running ∧ (c.judge bs t).s.now = c.s.now ∧
    (c.judge bs t).s.settings = c.s.settings ∧ (c.judge bs t).s.line = c.s.line ∧ (c.judge bs t).s.secs = c.s.secs ∧
    (c.judge bs t).s.trk = c.s.trk ∧ (c.judge bs t).s.pred = c.s.pred ∧ (c.judge bs t).s.seq = c.s.seq ∧
    (c.judge bs t).s.link = c.s.link ∧ (c.judge bs t).s.cmd = c.s.cmd ∧ (c.judge bs t).s.img = c.s.img ∧
    (c.judge bs t).s.ldr = c.s.ldr ∧ (c.judge bs t).exit = c.exit := by
  simp [Ctx.judge]

@[simp] theorem Ctx.judgeClosing_frame (c : Ctx) (bs : List Boom) :
    (c.judgeClosing bs).s.pending = c.s.pending ∧ (c.judgeClosing bs).s.running = c.s.running ∧
    (c.judgeClosing bs).s.now = c.s.now ∧ (c.judgeClosing bs).s.settings = c.s.settings ∧
    (c.judgeClosing bs).s.line = c.s.line ∧ (c.judgeClosing bs).s.secs = c.s.secs ∧ (c.judgeClosing bs).s.trk = c.s.trk ∧
    (c.judgeClosing bs).s.pred = c.s.pred ∧ (c.judgeClosing bs).s.seq = c.s.seq ∧ (c.judgeClosing bs).s.link = c.s.link ∧
    (c.judgeClosing bs).s.cmd = c.s.cmd ∧ (c.judgeClosing bs).s.img = c.s.img ∧ (c.judgeClosing bs).s.ldr = c.s.ldr ∧
    (c.judgeClosing bs).exit = c.exit := by
  and_intros <;> simp only [Ctx.judgeClosing] <;> split <;> simp

@[simp] theorem Ctx.boomChanged_frame (c : Ctx) (b : Boom) (w : Proving) :
    (c.boomChanged b w).s.pending = c.s.pending ∧ (c.boomChanged b w).s.running = c.s.running ∧
    (c.boomChanged b w).s.now = c.s.now ∧ (c.boomChanged b w).s.settings = c.s.settings ∧
    (c.boomChanged b w).s.line = c.s.line ∧ (c.boomChanged b w).s.secs = c.s.secs ∧
    (c.boomChanged b w).s.trk = c.s.trk ∧ (c.boomChanged b w).s.pred = c.s.pred ∧
    (c.boomChanged b w).s.seq = c.s.seq ∧ (c.boomChanged b w).s.flt = c.s.flt ∧
    (c.boomChanged b w).s.queue = c.s.queue ∧ (c.boomChanged b w).s.link = c.s.link ∧
    (c.boomChanged b w).s.bus = c.s.bus ∧ (c.boomChanged b w).s.cmd = c.s.cmd ∧ (c.boomChanged b w).s.img = c.s.img ∧
    (c.boomChanged b w).s.ldr = c.s.ldr ∧ (c.boomChanged b w).exit = c.exit := by
  and_intros <;> simp only [Ctx.boomChanged] <;> (repeat' split) <;> simp

@[simp] theorem Ctx.detectorChanged_frame (c : Ctx) (w : Proving) :
    (c.detectorChanged w).s.pending = c.s.pending ∧ (c.detectorChanged w).s.running = c.s.running ∧
    (c.detectorChanged w).s.now = c.s.now ∧ (c.detectorChanged w).s.settings = c.s.settings ∧
    (c.detectorChanged w).s.line = c.s.line ∧ (c.detectorChanged w).s.secs = c.s.secs ∧
    (c.detectorChanged w).s.trk = c.s.trk ∧ (c.detectorChanged w).s.pred = c.s.pred ∧
    (c.detectorChanged w).s.seq = c.s.seq ∧ (c.detectorChanged w).s.prv = c.s.prv ∧
    (c.detectorChanged w).s.flt = c.s.flt ∧ (c.detectorChanged w).s.queue = c.s.queue ∧
    (c.detectorChanged w).s.link = c.s.link ∧ (c.detectorChanged w).s.bus = c.s.bus ∧
    (c.detectorChanged w).s.cmd = c.s.cmd ∧ (c.detectorChanged w).s.img = c.s.img ∧
    (c.detectorChanged w).s.ldr = c.s.ldr ∧ (c.detectorChanged w).exit = c.exit := by
  and_intros <;> simp only [Ctx.detectorChanged] <;> (repeat' split) <;> simp

@[simp] theorem Ctx.contactConditions_frame (c : Ctx) (i : Fin 16) (w : Proving) :
    (c.contactConditions i w).s.pending = c.s.pending ∧ (c.contactConditions i w).s.running = c.s.running ∧
    (c.contactConditions i w).s.now = c.s.now ∧ (c.contactConditions i w).s.settings = c.s.settings ∧
    (c.contactConditions i w).s.line = c.s.line ∧ (c.contactConditions i w).s.secs = c.s.secs ∧
    (c.contactConditions i w).s.trk = c.s.trk ∧ (c.contactConditions i w).s.pred = c.s.pred ∧
    (c.contactConditions i w).s.seq = c.s.seq ∧ (c.contactConditions i w).s.flt = c.s.flt ∧
    (c.contactConditions i w).s.queue = c.s.queue ∧ (c.contactConditions i w).s.link = c.s.link ∧
    (c.contactConditions i w).s.bus = c.s.bus ∧ (c.contactConditions i w).s.cmd = c.s.cmd ∧
    (c.contactConditions i w).s.img = c.s.img ∧ (c.contactConditions i w).s.ldr = c.s.ldr ∧
    (c.contactConditions i w).exit = c.exit := by
  and_intros <;> simp only [Ctx.contactConditions] <;> (repeat' split) <;> simp

@[simp] theorem Ctx.boomReport_frame (c : Ctx) :
    (c.boomReport).s.pending = c.s.pending ∧ (c.boomReport).s.running = c.s.running ∧ (c.boomReport).s.now = c.s.now ∧
    (c.boomReport).s.settings = c.s.settings ∧ (c.boomReport).s.line = c.s.line ∧ (c.boomReport).s.secs = c.s.secs ∧
    (c.boomReport).s.trk = c.s.trk ∧ (c.boomReport).s.pred = c.s.pred ∧ (c.boomReport).s.flt = c.s.flt ∧
    (c.boomReport).s.queue = c.s.queue ∧ (c.boomReport).s.link = c.s.link ∧ (c.boomReport).s.cmd = c.s.cmd ∧
    (c.boomReport).s.img = c.s.img ∧ (c.boomReport).s.ldr = c.s.ldr ∧ (c.boomReport).exit = c.exit := by
  and_intros <;> simp only [Ctx.boomReport] <;> (repeat' split) <;> simp

@[simp] theorem Ctx.detectorReport_frame (c : Ctx) (w : Proving) :
    (c.detectorReport w).s.pending = c.s.pending ∧ (c.detectorReport w).s.running = c.s.running ∧
    (c.detectorReport w).s.now = c.s.now ∧ (c.detectorReport w).s.settings = c.s.settings ∧
    (c.detectorReport w).s.line = c.s.line ∧ (c.detectorReport w).s.secs = c.s.secs ∧
    (c.detectorReport w).s.trk = c.s.trk ∧ (c.detectorReport w).s.pred = c.s.pred ∧
    (c.detectorReport w).s.prv = c.s.prv ∧ (c.detectorReport w).s.flt = c.s.flt ∧
    (c.detectorReport w).s.queue = c.s.queue ∧ (c.detectorReport w).s.link = c.s.link ∧
    (c.detectorReport w).s.bus = c.s.bus ∧ (c.detectorReport w).s.cmd = c.s.cmd ∧
    (c.detectorReport w).s.img = c.s.img ∧ (c.detectorReport w).s.ldr = c.s.ldr ∧ (c.detectorReport w).exit = c.exit := by
  and_intros <;> simp only [Ctx.detectorReport] <;> (repeat' split) <;> simp

@[simp] theorem Ctx.contactReport_frame (c : Ctx) (i : Fin 16) (w : Proving) :
    (c.contactReport i w).s.pending = c.s.pending ∧ (c.contactReport i w).s.running = c.s.running ∧
    (c.contactReport i w).s.now = c.s.now ∧ (c.contactReport i w).s.settings = c.s.settings ∧
    (c.contactReport i w).s.line = c.s.line ∧ (c.contactReport i w).s.secs = c.s.secs ∧
    (c.contactReport i w).s.trk = c.s.trk ∧ (c.contactReport i w).s.pred = c.s.pred ∧
    (c.contactReport i w).s.flt = c.s.flt ∧ (c.contactReport i w).s.queue = c.s.queue ∧
    (c.contactReport i w).s.link = c.s.link ∧ (c.contactReport i w).s.cmd = c.s.cmd ∧
    (c.contactReport i w).s.img = c.s.img := by
  and_intros <;> simp only [Ctx.contactReport] <;> (repeat' split) <;> simp

@[simp] theorem Ctx.setLampFault_frame (c : Ctx) (i : Lamp) (x : Option LampCause) :
    (c.setLampFault i x).s.pending = c.s.pending ∧ (c.setLampFault i x).s.running = c.s.running ∧
    (c.setLampFault i x).s.now = c.s.now ∧ (c.setLampFault i x).s.settings = c.s.settings ∧
    (c.setLampFault i x).s.line = c.s.line ∧ (c.setLampFault i x).s.secs = c.s.secs ∧
    (c.setLampFault i x).s.trk = c.s.trk ∧ (c.setLampFault i x).s.pred = c.s.pred ∧
    (c.setLampFault i x).s.seq = c.s.seq ∧ (c.setLampFault i x).s.flt = c.s.flt ∧
    (c.setLampFault i x).s.queue = c.s.queue ∧ (c.setLampFault i x).s.link = c.s.link ∧
    (c.setLampFault i x).s.bus = c.s.bus ∧ (c.setLampFault i x).s.cmd = c.s.cmd ∧
    (c.setLampFault i x).s.img = c.s.img ∧ (c.setLampFault i x).s.ldr = c.s.ldr ∧ (c.setLampFault i x).exit = c.exit := by
  simp [Ctx.setLampFault]

@[simp] theorem Ctx.checkLamp_frame (c : Ctx) (i : Lamp) :
    (c.checkLamp i).s.pending = c.s.pending ∧ (c.checkLamp i).s.running = c.s.running ∧
    (c.checkLamp i).s.now = c.s.now ∧ (c.checkLamp i).s.settings = c.s.settings ∧ (c.checkLamp i).s.line = c.s.line ∧
    (c.checkLamp i).s.secs = c.s.secs ∧ (c.checkLamp i).s.trk = c.s.trk ∧ (c.checkLamp i).s.pred = c.s.pred ∧
    (c.checkLamp i).s.seq = c.s.seq ∧ (c.checkLamp i).s.flt = c.s.flt ∧ (c.checkLamp i).s.queue = c.s.queue ∧
    (c.checkLamp i).s.link = c.s.link ∧ (c.checkLamp i).s.bus = c.s.bus ∧ (c.checkLamp i).s.cmd = c.s.cmd ∧
    (c.checkLamp i).s.img = c.s.img ∧ (c.checkLamp i).s.ldr = c.s.ldr ∧ (c.checkLamp i).exit = c.exit := by
  and_intros <;> simp only [Ctx.checkLamp] <;> (repeat' split) <;> simp

@[simp] theorem Ctx.cut_frame (c : Ctx) (x : CutCause) :
    (c.cut x).s.pending = c.s.pending ∧ (c.cut x).s.running = c.s.running ∧ (c.cut x).s.now = c.s.now ∧
    (c.cut x).s.settings = c.s.settings ∧ (c.cut x).s.line = c.s.line ∧ (c.cut x).s.secs = c.s.secs ∧
    (c.cut x).s.trk = c.s.trk ∧ (c.cut x).s.pred = c.s.pred ∧ (c.cut x).s.seq = c.s.seq ∧ (c.cut x).s.prv = c.s.prv ∧
    (c.cut x).s.flt = c.s.flt ∧ (c.cut x).s.queue = c.s.queue ∧ (c.cut x).s.cmd = c.s.cmd ∧
    (c.cut x).s.img = c.s.img ∧ (c.cut x).s.ldr = c.s.ldr ∧ (c.cut x).exit = c.exit := by
  and_intros <;> simp only [Ctx.cut] <;> (repeat' split) <;> simp

@[simp] theorem Ctx.hunt_frame (c : Ctx) (v : Byte) (l f : Bool) :
    (c.hunt v l f).s.pending = c.s.pending ∧ (c.hunt v l f).s.running = c.s.running ∧ (c.hunt v l f).s.now = c.s.now ∧
    (c.hunt v l f).s.settings = c.s.settings ∧ (c.hunt v l f).s.line = c.s.line ∧ (c.hunt v l f).s.secs = c.s.secs ∧
    (c.hunt v l f).s.trk = c.s.trk ∧ (c.hunt v l f).s.pred = c.s.pred ∧ (c.hunt v l f).s.seq = c.s.seq ∧
    (c.hunt v l f).s.prv = c.s.prv ∧ (c.hunt v l f).s.flt = c.s.flt ∧ (c.hunt v l f).s.queue = c.s.queue ∧
    (c.hunt v l f).s.bus = c.s.bus ∧ (c.hunt v l f).s.cmd = c.s.cmd ∧ (c.hunt v l f).s.img = c.s.img ∧
    (c.hunt v l f).s.ldr = c.s.ldr ∧ (c.hunt v l f).exit = c.exit := by
  and_intros <;> simp only [Ctx.hunt] <;> (repeat' split) <;> simp

@[simp] theorem State.takeGroup_frame (s : State) (p : Fin 4) (e : Byte) (w m : Word) :
    (s.takeGroup p e w m).pending = s.pending ∧ (s.takeGroup p e w m).running = s.running ∧
    (s.takeGroup p e w m).now = s.now ∧ (s.takeGroup p e w m).settings = s.settings ∧
    (s.takeGroup p e w m).line = s.line ∧ (s.takeGroup p e w m).secs = s.secs ∧ (s.takeGroup p e w m).trk = s.trk ∧
    (s.takeGroup p e w m).seq = s.seq ∧ (s.takeGroup p e w m).prv = s.prv ∧ (s.takeGroup p e w m).flt = s.flt ∧
    (s.takeGroup p e w m).queue = s.queue ∧ (s.takeGroup p e w m).bus = s.bus ∧ (s.takeGroup p e w m).cmd = s.cmd ∧
    (s.takeGroup p e w m).img = s.img ∧ (s.takeGroup p e w m).ldr = s.ldr := by
  and_intros <;> simp only [State.takeGroup] <;> (repeat' split) <;> simp

@[simp] theorem Ctx.groupOf_frame (c : Ctx) (l : List Byte) :
    (c.groupOf l).s.pending = c.s.pending ∧ (c.groupOf l).s.running = c.s.running ∧ (c.groupOf l).s.now = c.s.now ∧
    (c.groupOf l).s.settings = c.s.settings ∧ (c.groupOf l).s.line = c.s.line ∧ (c.groupOf l).s.secs = c.s.secs ∧
    (c.groupOf l).s.trk = c.s.trk ∧ (c.groupOf l).s.seq = c.s.seq ∧ (c.groupOf l).s.prv = c.s.prv ∧
    (c.groupOf l).s.flt = c.s.flt ∧ (c.groupOf l).s.queue = c.s.queue ∧ (c.groupOf l).s.bus = c.s.bus ∧
    (c.groupOf l).s.cmd = c.s.cmd ∧ (c.groupOf l).s.img = c.s.img ∧ (c.groupOf l).s.ldr = c.s.ldr ∧
    (c.groupOf l).exit = c.exit := by
  and_intros <;> simp only [Ctx.groupOf] <;> (repeat' split) <;> simp

@[simp] theorem Ctx.frameGood_frame (c : Ctx) :
    (c.frameGood).s.pending = c.s.pending ∧ (c.frameGood).s.running = c.s.running ∧ (c.frameGood).s.now = c.s.now ∧
    (c.frameGood).s.settings = c.s.settings ∧ (c.frameGood).s.line = c.s.line ∧ (c.frameGood).s.secs = c.s.secs ∧
    (c.frameGood).s.trk = c.s.trk ∧ (c.frameGood).s.pred = c.s.pred ∧ (c.frameGood).s.seq = c.s.seq ∧
    (c.frameGood).s.prv = c.s.prv ∧ (c.frameGood).s.cmd = c.s.cmd ∧ (c.frameGood).s.img = c.s.img ∧
    (c.frameGood).s.ldr = c.s.ldr ∧ (c.frameGood).exit = c.exit := by
  and_intros <;> simp only [Ctx.frameGood] <;> (repeat' split) <;> simp

@[simp] theorem State.fetchStart_frame (s : State)  :
    (s.fetchStart).pending = s.pending ∧ (s.fetchStart).running = s.running ∧ (s.fetchStart).now = s.now ∧
    (s.fetchStart).settings = s.settings ∧ (s.fetchStart).line = s.line ∧ (s.fetchStart).secs = s.secs ∧
    (s.fetchStart).trk = s.trk ∧ (s.fetchStart).pred = s.pred ∧ (s.fetchStart).seq = s.seq ∧
    (s.fetchStart).prv = s.prv ∧ (s.fetchStart).flt = s.flt ∧ (s.fetchStart).queue = s.queue ∧
    (s.fetchStart).link = s.link ∧ (s.fetchStart).cmd = s.cmd ∧ (s.fetchStart).img = s.img ∧
    (s.fetchStart).ldr = s.ldr := by
  and_intros <;> simp only [State.fetchStart] <;> (repeat' split) <;> simp

@[simp] theorem Ctx.acceptEcho_frame (c : Ctx) (b : Byte) :
    (c.acceptEcho b).s.pending = c.s.pending ∧ (c.acceptEcho b).s.running = c.s.running ∧
    (c.acceptEcho b).s.now = c.s.now ∧ (c.acceptEcho b).s.settings = c.s.settings ∧
    (c.acceptEcho b).s.line = c.s.line ∧ (c.acceptEcho b).s.secs = c.s.secs ∧ (c.acceptEcho b).s.trk = c.s.trk ∧
    (c.acceptEcho b).s.pred = c.s.pred ∧ (c.acceptEcho b).s.seq = c.s.seq ∧ (c.acceptEcho b).s.prv = c.s.prv ∧
    (c.acceptEcho b).s.flt = c.s.flt ∧ (c.acceptEcho b).s.cmd = c.s.cmd ∧ (c.acceptEcho b).s.img = c.s.img ∧
    (c.acceptEcho b).s.ldr = c.s.ldr ∧ (c.acceptEcho b).exit = c.exit := by
  and_intros <;> simp only [Ctx.acceptEcho] <;> (repeat' split) <;> simp

@[simp] theorem Ctx.cutForRate_frame (c : Ctx) (n : Nat) :
    (c.cutForRate n).s.pending = c.s.pending ∧ (c.cutForRate n).s.running = c.s.running ∧
    (c.cutForRate n).s.now = c.s.now ∧ (c.cutForRate n).s.settings = c.s.settings ∧
    (c.cutForRate n).s.line = c.s.line ∧ (c.cutForRate n).s.secs = c.s.secs ∧ (c.cutForRate n).s.trk = c.s.trk ∧
    (c.cutForRate n).s.pred = c.s.pred ∧ (c.cutForRate n).s.seq = c.s.seq ∧ (c.cutForRate n).s.prv = c.s.prv ∧
    (c.cutForRate n).s.flt = c.s.flt ∧ (c.cutForRate n).s.queue = c.s.queue ∧ (c.cutForRate n).s.cmd = c.s.cmd ∧
    (c.cutForRate n).s.img = c.s.img ∧ (c.cutForRate n).s.ldr = c.s.ldr ∧ (c.cutForRate n).exit = c.exit := by
  and_intros <;> simp only [Ctx.cutForRate] <;> (repeat' split) <;> simp

@[simp] theorem Ctx.applyBlock_frame (c : Ctx) (k : LoadKind) (v : BlockValues) :
    (c.applyBlock k v).s.pending = c.s.pending ∧ (c.applyBlock k v).s.running = c.s.running ∧
    (c.applyBlock k v).s.now = c.s.now ∧ (c.applyBlock k v).s.line = c.s.line ∧ (c.applyBlock k v).s.secs = c.s.secs ∧
    (c.applyBlock k v).s.trk = c.s.trk ∧ (c.applyBlock k v).s.seq = c.s.seq ∧ (c.applyBlock k v).s.prv = c.s.prv ∧
    (c.applyBlock k v).s.flt = c.s.flt ∧ (c.applyBlock k v).s.queue = c.s.queue ∧ (c.applyBlock k v).s.cmd = c.s.cmd ∧
    (c.applyBlock k v).s.img = c.s.img ∧ (c.applyBlock k v).exit = c.exit := by
  and_intros <;> simp only [Ctx.applyBlock] <;> (repeat' split) <;> simp

@[simp] theorem Ctx.startRetry_frame (c : Ctx) :
    (c.startRetry).s.pending = c.s.pending ∧ (c.startRetry).s.running = c.s.running ∧ (c.startRetry).s.now = c.s.now ∧
    (c.startRetry).s.settings = c.s.settings ∧ (c.startRetry).s.line = c.s.line ∧ (c.startRetry).s.secs = c.s.secs ∧
    (c.startRetry).s.trk = c.s.trk ∧ (c.startRetry).s.pred = c.s.pred ∧ (c.startRetry).s.seq = c.s.seq ∧
    (c.startRetry).s.prv = c.s.prv ∧ (c.startRetry).s.flt = c.s.flt ∧ (c.startRetry).s.queue = c.s.queue ∧
    (c.startRetry).s.link = c.s.link ∧ (c.startRetry).s.bus = c.s.bus ∧ (c.startRetry).s.cmd = c.s.cmd ∧
    (c.startRetry).s.img = c.s.img ∧ (c.startRetry).exit = c.exit := by
  and_intros <;> simp only [Ctx.startRetry] <;> (repeat' split) <;> simp

@[simp] theorem Ctx.firstInvalid_frame (c : Ctx) (r : BadBlock) :
    (c.firstInvalid r).s.pending = c.s.pending ∧ (c.firstInvalid r).s.running = c.s.running ∧
    (c.firstInvalid r).s.now = c.s.now ∧ (c.firstInvalid r).s.settings = c.s.settings ∧
    (c.firstInvalid r).s.line = c.s.line ∧ (c.firstInvalid r).s.secs = c.s.secs ∧ (c.firstInvalid r).s.trk = c.s.trk ∧
    (c.firstInvalid r).s.pred = c.s.pred ∧ (c.firstInvalid r).s.seq = c.s.seq ∧ (c.firstInvalid r).s.prv = c.s.prv ∧
    (c.firstInvalid r).s.link = c.s.link ∧ (c.firstInvalid r).s.cmd = c.s.cmd ∧ (c.firstInvalid r).s.img = c.s.img ∧
    (c.firstInvalid r).exit = c.exit := by
  and_intros <;> simp only [Ctx.firstInvalid] <;> (repeat' split) <;> simp

@[simp] theorem Ctx.loadOutcome_frame (c : Ctx) (l : Load) (v : Except BadBlock BlockValues) :
    (c.loadOutcome l v).s.pending = c.s.pending ∧ (c.loadOutcome l v).s.running = c.s.running ∧
    (c.loadOutcome l v).s.now = c.s.now ∧ (c.loadOutcome l v).s.line = c.s.line ∧
    (c.loadOutcome l v).s.secs = c.s.secs ∧ (c.loadOutcome l v).s.trk = c.s.trk ∧
    (c.loadOutcome l v).s.cmd = c.s.cmd ∧ (c.loadOutcome l v).s.img = c.s.img ∧ (c.loadOutcome l v).exit = c.exit := by
  and_intros <;> simp only [Ctx.loadOutcome] <;> (repeat' split) <;> simp

@[simp] theorem Ctx.requestRestart_frame (c : Ctx) (i : Slot) :
    (c.requestRestart i).s.pending = c.s.pending ∧ (c.requestRestart i).s.running = c.s.running ∧
    (c.requestRestart i).s.now = c.s.now ∧ (c.requestRestart i).s.settings = c.s.settings ∧
    (c.requestRestart i).s.line = c.s.line ∧ (c.requestRestart i).s.secs = c.s.secs ∧
    (c.requestRestart i).s.pred = c.s.pred ∧ (c.requestRestart i).s.flt = c.s.flt ∧
    (c.requestRestart i).s.queue = c.s.queue ∧ (c.requestRestart i).s.link = c.s.link ∧
    (c.requestRestart i).s.cmd = c.s.cmd ∧ (c.requestRestart i).s.img = c.s.img ∧
    (c.requestRestart i).s.ldr = c.s.ldr ∧ (c.requestRestart i).exit = c.exit := by
  and_intros <;> simp only [Ctx.requestRestart] <;> (repeat' split) <;> simp

@[simp] theorem Ctx.enterTest_frame (c : Ctx) :
    (c.enterTest).s.pending = c.s.pending ∧ (c.enterTest).s.running = c.s.running ∧ (c.enterTest).s.now = c.s.now ∧
    (c.enterTest).s.settings = c.s.settings ∧ (c.enterTest).s.line = c.s.line ∧ (c.enterTest).s.secs = c.s.secs ∧
    (c.enterTest).s.trk = c.s.trk ∧ (c.enterTest).s.pred = c.s.pred ∧ (c.enterTest).s.prv = c.s.prv ∧
    (c.enterTest).s.flt = c.s.flt ∧ (c.enterTest).s.queue = c.s.queue ∧ (c.enterTest).s.link = c.s.link ∧
    (c.enterTest).s.cmd = c.s.cmd ∧ (c.enterTest).s.img = c.s.img ∧ (c.enterTest).s.ldr = c.s.ldr ∧
    (c.enterTest).exit = c.exit := by
  and_intros <;> simp only [Ctx.enterTest] <;> (repeat' split) <;> simp

@[simp] theorem Ctx.testOutput_frame (c : Ctx) (x : TestItem) :
    (c.testOutput x).s.pending = c.s.pending ∧ (c.testOutput x).s.running = c.s.running ∧
    (c.testOutput x).s.now = c.s.now ∧ (c.testOutput x).s.settings = c.s.settings ∧
    (c.testOutput x).s.line = c.s.line ∧ (c.testOutput x).s.secs = c.s.secs ∧ (c.testOutput x).s.trk = c.s.trk ∧
    (c.testOutput x).s.pred = c.s.pred ∧ (c.testOutput x).s.flt = c.s.flt ∧ (c.testOutput x).s.queue = c.s.queue ∧
    (c.testOutput x).s.link = c.s.link ∧ (c.testOutput x).s.bus = c.s.bus ∧ (c.testOutput x).s.cmd = c.s.cmd ∧
    (c.testOutput x).s.img = c.s.img ∧ (c.testOutput x).s.ldr = c.s.ldr ∧ (c.testOutput x).exit = c.exit := by
  and_intros <;> simp only [Ctx.testOutput] <;> (repeat' split) <;> simp

@[simp] theorem State.startLoad_frame (s : State) (k : LoadKind) :
    (s.startLoad k).pending = s.pending ∧ (s.startLoad k).running = s.running ∧ (s.startLoad k).now = s.now ∧
    (s.startLoad k).settings = s.settings ∧ (s.startLoad k).line = s.line ∧ (s.startLoad k).secs = s.secs ∧
    (s.startLoad k).trk = s.trk ∧ (s.startLoad k).pred = s.pred ∧ (s.startLoad k).seq = s.seq ∧
    (s.startLoad k).prv = s.prv ∧ (s.startLoad k).flt = s.flt ∧ (s.startLoad k).queue = s.queue ∧
    (s.startLoad k).link = s.link ∧ (s.startLoad k).cmd = s.cmd ∧ (s.startLoad k).img = s.img := by
  and_intros <;> simp only [State.startLoad] <;> (repeat' split) <;> simp

@[simp] theorem Ctx.startupNotice_frame (c : Ctx) (i : Sec) :
    (c.startupNotice i).s.pending = c.s.pending ∧ (c.startupNotice i).s.running = c.s.running ∧
    (c.startupNotice i).s.now = c.s.now ∧ (c.startupNotice i).s.settings = c.s.settings ∧
    (c.startupNotice i).s.line = c.s.line ∧ (c.startupNotice i).s.secs = c.s.secs ∧
    (c.startupNotice i).s.trk = c.s.trk ∧ (c.startupNotice i).s.pred = c.s.pred ∧
    (c.startupNotice i).s.seq = c.s.seq ∧ (c.startupNotice i).s.prv = c.s.prv ∧ (c.startupNotice i).s.flt = c.s.flt ∧
    (c.startupNotice i).s.queue = c.s.queue ∧ (c.startupNotice i).s.link = c.s.link ∧
    (c.startupNotice i).s.bus = c.s.bus ∧ (c.startupNotice i).s.cmd = c.s.cmd ∧ (c.startupNotice i).s.img = c.s.img ∧
    (c.startupNotice i).s.ldr = c.s.ldr ∧ (c.startupNotice i).exit = c.exit := by
  simp [Ctx.startupNotice]

@[simp] theorem Ctx.beginRun_frame (c : Ctx) :
    (c.beginRun).s.pending = c.s.pending ∧ (c.beginRun).s.running = c.s.running ∧ (c.beginRun).s.now = c.s.now ∧
    (c.beginRun).s.settings = c.s.settings ∧ (c.beginRun).s.secs = c.s.secs ∧ (c.beginRun).s.trk = c.s.trk ∧
    (c.beginRun).s.pred = c.s.pred ∧ (c.beginRun).s.flt = c.s.flt ∧ (c.beginRun).s.queue = c.s.queue ∧
    (c.beginRun).s.cmd = c.s.cmd ∧ (c.beginRun).s.img = c.s.img ∧ (c.beginRun).exit = c.exit := by
  and_intros <;> simp only [Ctx.beginRun] <;> (repeat' split) <;> simp

end Sys2Proof.Machine
end

