-- ==== Sys2Proof/Laws/RegisterFrames.lean ====
section
/-! SUPPORT. Which registers of the Sequence Controller, the Proving Unit and the Fault Supervisor each shared operation keeps. -/

namespace Sys2Proof.Machine

/-! A choice between two registers of a block, and doing something for each member of a list. -/

@[simp] theorem Sequence.ite_state (p : Prop) [Decidable p] (a b : Sequence) :
    (if p then a else b).state = if p then a.state else b.state := apply_ite (fun x : Sequence => x.state) p a b

@[simp] theorem Sequence.ite_entered (p : Prop) [Decidable p] (a b : Sequence) :
    (if p then a else b).entered = if p then a.entered else b.entered := apply_ite (fun x : Sequence => x.entered) p a b

@[simp] theorem Sequence.ite_demands (p : Prop) [Decidable p] (a b : Sequence) :
    (if p then a else b).demands = if p then a.demands else b.demands := apply_ite (fun x : Sequence => x.demands) p a b

@[simp] theorem Sequence.ite_amberDue (p : Prop) [Decidable p] (a b : Sequence) :
    (if p then a else b).amberDue = if p then a.amberDue else b.amberDue := apply_ite (fun x : Sequence => x.amberDue) p a b

@[simp] theorem Sequence.ite_redWarnDue (p : Prop) [Decidable p] (a b : Sequence) :
    (if p then a else b).redWarnDue = if p then a.redWarnDue else b.redWarnDue := apply_ite (fun x : Sequence => x.redWarnDue) p a b

@[simp] theorem Sequence.ite_entryDue (p : Prop) [Decidable p] (a b : Sequence) :
    (if p then a else b).entryDue = if p then a.entryDue else b.entryDue := apply_ite (fun x : Sequence => x.entryDue) p a b

@[simp] theorem Sequence.ite_settleDue (p : Prop) [Decidable p] (a b : Sequence) :
    (if p then a else b).settleDue = if p then a.settleDue else b.settleDue := apply_ite (fun x : Sequence => x.settleDue) p a b

@[simp] theorem Sequence.ite_clearLimitDue (p : Prop) [Decidable p] (a b : Sequence) :
    (if p then a else b).clearLimitDue = if p then a.clearLimitDue else b.clearLimitDue := apply_ite (fun x : Sequence => x.clearLimitDue) p a b

@[simp] theorem Sequence.ite_exitDue (p : Prop) [Decidable p] (a b : Sequence) :
    (if p then a else b).exitDue = if p then a.exitDue else b.exitDue := apply_ite (fun x : Sequence => x.exitDue) p a b

@[simp] theorem Sequence.ite_minClosedDue (p : Prop) [Decidable p] (a b : Sequence) :
    (if p then a else b).minClosedDue = if p then a.minClosedDue else b.minClosedDue := apply_ite (fun x : Sequence => x.minClosedDue) p a b

@[simp] theorem Sequence.ite_raiseDue (p : Prop) [Decidable p] (a b : Sequence) :
    (if p then a else b).raiseDue = if p then a.raiseDue else b.raiseDue := apply_ite (fun x : Sequence => x.raiseDue) p a b

@[simp] theorem Sequence.ite_testDue (p : Prop) [Decidable p] (a b : Sequence) :
    (if p then a else b).testDue = if p then a.testDue else b.testDue := apply_ite (fun x : Sequence => x.testDue) p a b

@[simp] theorem Sequence.ite_drives (p : Prop) [Decidable p] (a b : Sequence) :
    (if p then a else b).drives = if p then a.drives else b.drives := apply_ite (fun x : Sequence => x.drives) p a b

@[simp] theorem Sequence.ite_lamps (p : Prop) [Decidable p] (a b : Sequence) :
    (if p then a else b).lamps = if p then a.lamps else b.lamps := apply_ite (fun x : Sequence => x.lamps) p a b

@[simp] theorem Sequence.ite_audible (p : Prop) [Decidable p] (a b : Sequence) :
    (if p then a else b).audible = if p then a.audible else b.audible := apply_ite (fun x : Sequence => x.audible) p a b

@[simp] theorem Sequence.ite_flasher (p : Prop) [Decidable p] (a b : Sequence) :
    (if p then a else b).flasher = if p then a.flasher else b.flasher := apply_ite (fun x : Sequence => x.flasher) p a b

@[simp] theorem Sequence.ite_test (p : Prop) [Decidable p] (a b : Sequence) :
    (if p then a else b).test = if p then a.test else b.test := apply_ite (fun x : Sequence => x.test) p a b

@[simp] theorem Sequence.ite_proven (p : Prop) [Decidable p] (a b : Sequence) :
    (if p then a else b).proven = if p then a.proven else b.proven := apply_ite (fun x : Sequence => x.proven) p a b

@[simp] theorem Sequence.ite_permission (p : Prop) [Decidable p] (a b : Sequence) :
    (if p then a else b).permission = if p then a.permission else b.permission := apply_ite (fun x : Sequence => x.permission) p a b

@[simp] theorem Proving.ite_contacts (p : Prop) [Decidable p] (a b : Proving) :
    (if p then a else b).contacts = if p then a.contacts else b.contacts := apply_ite (fun x : Proving => x.contacts) p a b

@[simp] theorem Proving.ite_masks (p : Prop) [Decidable p] (a b : Proving) :
    (if p then a else b).masks = if p then a.masks else b.masks := apply_ite (fun x : Proving => x.masks) p a b

@[simp] theorem Proving.ite_booms (p : Prop) [Decidable p] (a b : Proving) :
    (if p then a else b).booms = if p then a.booms else b.booms := apply_ite (fun x : Proving => x.booms) p a b

@[simp] theorem Proving.ite_lamps (p : Prop) [Decidable p] (a b : Proving) :
    (if p then a else b).lamps = if p then a.lamps else b.lamps := apply_ite (fun x : Proving => x.lamps) p a b

@[simp] theorem Proving.ite_settled (p : Prop) [Decidable p] (a b : Proving) :
    (if p then a else b).settled = if p then a.settled else b.settled := apply_ite (fun x : Proving => x.settled) p a b

@[simp] theorem Faults.ite_table (p : Prop) [Decidable p] (a b : Faults) :
    (if p then a else b).table = if p then a.table else b.table := apply_ite (fun x : Faults => x.table) p a b

@[simp] theorem Faults.ite_present (p : Prop) [Decidable p] (a b : Faults) :
    (if p then a else b).present = if p then a.present else b.present := apply_ite (fun x : Faults => x.present) p a b

@[simp] theorem Faults.ite_mode (p : Prop) [Decidable p] (a b : Faults) :
    (if p then a else b).mode = if p then a.mode else b.mode := apply_ite (fun x : Faults => x.mode) p a b

@[simp] theorem Ctx.forEach_seq_state {α : Type} (f : Ctx → α → Ctx) (l : List α) (c : Ctx)
    (h : ∀ c a, (f c a).s.seq.state = c.s.seq.state) : (c.forEach l f).s.seq.state = c.s.seq.state :=
  Ctx.forEach_keeps (fun c => c.s.seq.state) f h l c

@[simp] theorem Ctx.forEach_seq_entered {α : Type} (f : Ctx → α → Ctx) (l : List α) (c : Ctx)
    (h : ∀ c a, (f c a).s.seq.entered = c.s.seq.entered) : (c.forEach l f).s.seq.entered = c.s.seq.entered :=
  Ctx.forEach_keeps (fun c => c.s.seq.entered) f h l c

@[simp] theorem Ctx.forEach_seq_demands {α : Type} (f : Ctx → α → Ctx) (l : List α) (c : Ctx)
    (h : ∀ c a, (f c a).s.seq.demands = c.s.seq.demands) : (c.forEach l f).s.seq.demands = c.s.seq.demands :=
  Ctx.forEach_keeps (fun c => c.s.seq.demands) f h l c

@[simp] theorem Ctx.forEach_seq_amberDue {α : Type} (f : Ctx → α → Ctx) (l : List α) (c : Ctx)
    (h : ∀ c a, (f c a).s.seq.amberDue = c.s.seq.amberDue) : (c.forEach l f).s.seq.amberDue = c.s.seq.amberDue :=
  Ctx.forEach_keeps (fun c => c.s.seq.amberDue) f h l c

@[simp] theorem Ctx.forEach_seq_redWarnDue {α : Type} (f : Ctx → α → Ctx) (l : List α) (c : Ctx)
    (h : ∀ c a, (f c a).s.seq.redWarnDue = c.s.seq.redWarnDue) : (c.forEach l f).s.seq.redWarnDue = c.s.seq.redWarnDue :=
  Ctx.forEach_keeps (fun c => c.s.seq.redWarnDue) f h l c

@[simp] theorem Ctx.forEach_seq_entryDue {α : Type} (f : Ctx → α → Ctx) (l : List α) (c : Ctx)
    (h : ∀ c a, (f c a).s.seq.entryDue = c.s.seq.entryDue) : (c.forEach l f).s.seq.entryDue = c.s.seq.entryDue :=
  Ctx.forEach_keeps (fun c => c.s.seq.entryDue) f h l c

@[simp] theorem Ctx.forEach_seq_settleDue {α : Type} (f : Ctx → α → Ctx) (l : List α) (c : Ctx)
    (h : ∀ c a, (f c a).s.seq.settleDue = c.s.seq.settleDue) : (c.forEach l f).s.seq.settleDue = c.s.seq.settleDue :=
  Ctx.forEach_keeps (fun c => c.s.seq.settleDue) f h l c

@[simp] theorem Ctx.forEach_seq_clearLimitDue {α : Type} (f : Ctx → α → Ctx) (l : List α) (c : Ctx)
    (h : ∀ c a, (f c a).s.seq.clearLimitDue = c.s.seq.clearLimitDue) : (c.forEach l f).s.seq.clearLimitDue = c.s.seq.clearLimitDue :=
  Ctx.forEach_keeps (fun c => c.s.seq.clearLimitDue) f h l c

@[simp] theorem Ctx.forEach_seq_exitDue {α : Type} (f : Ctx → α → Ctx) (l : List α) (c : Ctx)
    (h : ∀ c a, (f c a).s.seq.exitDue = c.s.seq.exitDue) : (c.forEach l f).s.seq.exitDue = c.s.seq.exitDue :=
  Ctx.forEach_keeps (fun c => c.s.seq.exitDue) f h l c

@[simp] theorem Ctx.forEach_seq_minClosedDue {α : Type} (f : Ctx → α → Ctx) (l : List α) (c : Ctx)
    (h : ∀ c a, (f c a).s.seq.minClosedDue = c.s.seq.minClosedDue) : (c.forEach l f).s.seq.minClosedDue = c.s.seq.minClosedDue :=
  Ctx.forEach_keeps (fun c => c.s.seq.minClosedDue) f h l c

@[simp] theorem Ctx.forEach_seq_raiseDue {α : Type} (f : Ctx → α → Ctx) (l : List α) (c : Ctx)
    (h : ∀ c a, (f c a).s.seq.raiseDue = c.s.seq.raiseDue) : (c.forEach l f).s.seq.raiseDue = c.s.seq.raiseDue :=
  Ctx.forEach_keeps (fun c => c.s.seq.raiseDue) f h l c

@[simp] theorem Ctx.forEach_seq_testDue {α : Type} (f : Ctx → α → Ctx) (l : List α) (c : Ctx)
    (h : ∀ c a, (f c a).s.seq.testDue = c.s.seq.testDue) : (c.forEach l f).s.seq.testDue = c.s.seq.testDue :=
  Ctx.forEach_keeps (fun c => c.s.seq.testDue) f h l c

@[simp] theorem Ctx.forEach_seq_drives {α : Type} (f : Ctx → α → Ctx) (l : List α) (c : Ctx)
    (h : ∀ c a, (f c a).s.seq.drives = c.s.seq.drives) : (c.forEach l f).s.seq.drives = c.s.seq.drives :=
  Ctx.forEach_keeps (fun c => c.s.seq.drives) f h l c

@[simp] theorem Ctx.forEach_seq_lamps {α : Type} (f : Ctx → α → Ctx) (l : List α) (c : Ctx)
    (h : ∀ c a, (f c a).s.seq.lamps = c.s.seq.lamps) : (c.forEach l f).s.seq.lamps = c.s.seq.lamps :=
  Ctx.forEach_keeps (fun c => c.s.seq.lamps) f h l c

@[simp] theorem Ctx.forEach_seq_audible {α : Type} (f : Ctx → α → Ctx) (l : List α) (c : Ctx)
    (h : ∀ c a, (f c a).s.seq.audible = c.s.seq.audible) : (c.forEach l f).s.seq.audible = c.s.seq.audible :=
  Ctx.forEach_keeps (fun c => c.s.seq.audible) f h l c

@[simp] theorem Ctx.forEach_seq_flasher {α : Type} (f : Ctx → α → Ctx) (l : List α) (c : Ctx)
    (h : ∀ c a, (f c a).s.seq.flasher = c.s.seq.flasher) : (c.forEach l f).s.seq.flasher = c.s.seq.flasher :=
  Ctx.forEach_keeps (fun c => c.s.seq.flasher) f h l c

@[simp] theorem Ctx.forEach_seq_test {α : Type} (f : Ctx → α → Ctx) (l : List α) (c : Ctx)
    (h : ∀ c a, (f c a).s.seq.test = c.s.seq.test) : (c.forEach l f).s.seq.test = c.s.seq.test :=
  Ctx.forEach_keeps (fun c => c.s.seq.test) f h l c

@[simp] theorem Ctx.forEach_seq_proven {α : Type} (f : Ctx → α → Ctx) (l : List α) (c : Ctx)
    (h : ∀ c a, (f c a).s.seq.proven = c.s.seq.proven) : (c.forEach l f).s.seq.proven = c.s.seq.proven :=
  Ctx.forEach_keeps (fun c => c.s.seq.proven) f h l c

@[simp] theorem Ctx.forEach_seq_permission {α : Type} (f : Ctx → α → Ctx) (l : List α) (c : Ctx)
    (h : ∀ c a, (f c a).s.seq.permission = c.s.seq.permission) : (c.forEach l f).s.seq.permission = c.s.seq.permission :=
  Ctx.forEach_keeps (fun c => c.s.seq.permission) f h l c

@[simp] theorem Ctx.forEach_prv_contacts {α : Type} (f : Ctx → α → Ctx) (l : List α) (c : Ctx)
    (h : ∀ c a, (f c a).s.prv.contacts = c.s.prv.contacts) : (c.forEach l f).s.prv.contacts = c.s.prv.contacts :=
  Ctx.forEach_keeps (fun c => c.s.prv.contacts) f h l c

@[simp] theorem Ctx.forEach_prv_masks {α : Type} (f : Ctx → α → Ctx) (l : List α) (c : Ctx)
    (h : ∀ c a, (f c a).s.prv.masks = c.s.prv.masks) : (c.forEach l f).s.prv.masks = c.s.prv.masks :=
  Ctx.forEach_keeps (fun c => c.s.prv.masks) f h l c

@[simp] theorem Ctx.forEach_prv_booms {α : Type} (f : Ctx → α → Ctx) (l : List α) (c : Ctx)
    (h : ∀ c a, (f c a).s.prv.booms = c.s.prv.booms) : (c.forEach l f).s.prv.booms = c.s.prv.booms :=
  Ctx.forEach_keeps (fun c => c.s.prv.booms) f h l c

@[simp] theorem Ctx.forEach_prv_lamps {α : Type} (f : Ctx → α → Ctx) (l : List α) (c : Ctx)
    (h : ∀ c a, (f c a).s.prv.lamps = c.s.prv.lamps) : (c.forEach l f).s.prv.lamps = c.s.prv.lamps :=
  Ctx.forEach_keeps (fun c => c.s.prv.lamps) f h l c

@[simp] theorem Ctx.forEach_prv_settled {α : Type} (f : Ctx → α → Ctx) (l : List α) (c : Ctx)
    (h : ∀ c a, (f c a).s.prv.settled = c.s.prv.settled) : (c.forEach l f).s.prv.settled = c.s.prv.settled :=
  Ctx.forEach_keeps (fun c => c.s.prv.settled) f h l c

@[simp] theorem Ctx.forEach_flt_table {α : Type} (f : Ctx → α → Ctx) (l : List α) (c : Ctx)
    (h : ∀ c a, (f c a).s.flt.table = c.s.flt.table) : (c.forEach l f).s.flt.table = c.s.flt.table :=
  Ctx.forEach_keeps (fun c => c.s.flt.table) f h l c

@[simp] theorem Ctx.forEach_flt_present {α : Type} (f : Ctx → α → Ctx) (l : List α) (c : Ctx)
    (h : ∀ c a, (f c a).s.flt.present = c.s.flt.present) : (c.forEach l f).s.flt.present = c.s.flt.present :=
  Ctx.forEach_keeps (fun c => c.s.flt.present) f h l c

@[simp] theorem Ctx.forEach_flt_mode {α : Type} (f : Ctx → α → Ctx) (l : List α) (c : Ctx)
    (h : ∀ c a, (f c a).s.flt.mode = c.s.flt.mode) : (c.forEach l f).s.flt.mode = c.s.flt.mode :=
  Ctx.forEach_keeps (fun c => c.s.flt.mode) f h l c

/-! The settled levels of a masked boom are those it had (R103). -/

@[simp] theorem Proving.maskBoom_settled (p : Proving) (b : Boom) (n : Time) : (p.maskBoom b n).settled = p.settled := by
  funext i
  simp only [Proving.settled, Proving.maskBoom, upd, Fin.getElem_fin, Vector.getElem_set]
  repeat' split
  all_goals simp_all

@[simp] theorem Proving.maskBoom_booms (p : Proving) (b : Boom) (n : Time) : (p.maskBoom b n).booms = p.booms := rfl
@[simp] theorem Proving.maskBoom_lamps (p : Proving) (b : Boom) (n : Time) : (p.maskBoom b n).lamps = p.lamps := rfl

/-! Proving's levels do not depend on its other registers. -/

theorem Proving.settled_congr (p q : Proving) (h : p.contacts = q.contacts) : p.settled = q.settled := by
  funext i
  simp [Proving.settled, h]

theorem Proving.position_congr (p q : Proving) (h : p.settled = q.settled) (b : Boom) : p.position b = q.position b := by
  simp [Proving.position, h]

theorem Proving.intact_congr (p q : Proving) (h : p.settled = q.settled) (b : Boom) : p.intact b = q.intact b := by
  simp [Proving.intact, h]

theorem Proving.allAt_congr (p q : Proving) (h : p.settled = q.settled) (l : List Boom) (x : Position) :
    p.allAt l x = q.allAt l x := by
  simp [Proving.allAt, Proving.position, h]

theorem Proving.detector_congr (p q : Proving) (h : p.settled = q.settled) : p.detector = q.detector := by
  simp [Proving.detector, h]

@[simp] theorem Ctx.setLamp_keeps (c : Ctx) (i : Lamp) (x : LampCmd) :
    (c.setLamp i x).s.seq.state = c.s.seq.state ∧ (c.setLamp i x).s.seq.entered = c.s.seq.entered ∧
    (c.setLamp i x).s.seq.demands = c.s.seq.demands ∧ (c.setLamp i x).s.seq.amberDue = c.s.seq.amberDue ∧
    (c.setLamp i x).s.seq.redWarnDue = c.s.seq.redWarnDue ∧ (c.setLamp i x).s.seq.entryDue = c.s.seq.entryDue ∧
    (c.setLamp i x).s.seq.settleDue = c.s.seq.settleDue ∧
    (c.setLamp i x).s.seq.clearLimitDue = c.s.seq.clearLimitDue ∧ (c.setLamp i x).s.seq.exitDue = c.s.seq.exitDue ∧
    (c.setLamp i x).s.seq.minClosedDue = c.s.seq.minClosedDue ∧ (c.setLamp i x).s.seq.raiseDue = c.s.seq.raiseDue ∧
    (c.setLamp i x).s.seq.testDue = c.s.seq.testDue ∧ (c.setLamp i x).s.seq.drives = c.s.seq.drives ∧
    (c.setLamp i x).s.seq.audible = c.s.seq.audible ∧ (c.setLamp i x).s.seq.flasher = c.s.seq.flasher ∧
    (c.setLamp i x).s.seq.test = c.s.seq.test ∧ (c.setLamp i x).s.seq.proven = c.s.seq.proven ∧
    (c.setLamp i x).s.seq.permission = c.s.seq.permission ∧ (c.setLamp i x).s.prv.contacts = c.s.prv.contacts ∧
    (c.setLamp i x).s.prv.masks = c.s.prv.masks ∧ (c.setLamp i x).s.prv.booms = c.s.prv.booms := by
  and_intros <;> simp only [Ctx.setLamp] <;> (repeat' split) <;> simp

@[simp] theorem Ctx.startReds_keeps (c : Ctx) :
    (c.startReds).s.prv.contacts = c.s.prv.contacts ∧ (c.startReds).s.prv.masks = c.s.prv.masks ∧
    (c.startReds).s.prv.booms = c.s.prv.booms := by
  and_intros <;> simp only [Ctx.startReds] <;> (repeat' split) <;> simp [Proving.startCheck]

@[simp] theorem Ctx.syncFlasher_keeps (c : Ctx) :
    (c.syncFlasher).s.seq.state = c.s.seq.state ∧ (c.syncFlasher).s.seq.entered = c.s.seq.entered ∧
    (c.syncFlasher).s.seq.demands = c.s.seq.demands ∧ (c.syncFlasher).s.seq.amberDue = c.s.seq.amberDue ∧
    (c.syncFlasher).s.seq.redWarnDue = c.s.seq.redWarnDue ∧ (c.syncFlasher).s.seq.entryDue = c.s.seq.entryDue ∧
    (c.syncFlasher).s.seq.settleDue = c.s.seq.settleDue ∧
    (c.syncFlasher).s.seq.clearLimitDue = c.s.seq.clearLimitDue ∧ (c.syncFlasher).s.seq.exitDue = c.s.seq.exitDue ∧
    (c.syncFlasher).s.seq.minClosedDue = c.s.seq.minClosedDue ∧ (c.syncFlasher).s.seq.raiseDue = c.s.seq.raiseDue ∧
    (c.syncFlasher).s.seq.testDue = c.s.seq.testDue ∧ (c.syncFlasher).s.seq.drives = c.s.seq.drives ∧
    (c.syncFlasher).s.seq.lamps = c.s.seq.lamps ∧ (c.syncFlasher).s.seq.audible = c.s.seq.audible ∧
    (c.syncFlasher).s.seq.test = c.s.seq.test ∧ (c.syncFlasher).s.seq.proven = c.s.seq.proven ∧
    (c.syncFlasher).s.seq.permission = c.s.seq.permission ∧ (c.syncFlasher).s.prv.contacts = c.s.prv.contacts ∧
    (c.syncFlasher).s.prv.masks = c.s.prv.masks ∧ (c.syncFlasher).s.prv.booms = c.s.prv.booms := by
  and_intros <;> simp only [Ctx.syncFlasher] <;> (repeat' split) <;> simp

@[simp] theorem Ctx.setRoad_keeps (c : Ctx) (x : Crossing) :
    (c.setRoad x).s.seq.state = c.s.seq.state ∧ (c.setRoad x).s.seq.entered = c.s.seq.entered ∧
    (c.setRoad x).s.seq.demands = c.s.seq.demands ∧ (c.setRoad x).s.seq.amberDue = c.s.seq.amberDue ∧
    (c.setRoad x).s.seq.redWarnDue = c.s.seq.redWarnDue ∧ (c.setRoad x).s.seq.entryDue = c.s.seq.entryDue ∧
    (c.setRoad x).s.seq.settleDue = c.s.seq.settleDue ∧ (c.setRoad x).s.seq.clearLimitDue = c.s.seq.clearLimitDue ∧
    (c.setRoad x).s.seq.exitDue = c.s.seq.exitDue ∧ (c.setRoad x).s.seq.minClosedDue = c.s.seq.minClosedDue ∧
    (c.setRoad x).s.seq.raiseDue = c.s.seq.raiseDue ∧ (c.setRoad x).s.seq.testDue = c.s.seq.testDue ∧
    (c.setRoad x).s.seq.drives = c.s.seq.drives ∧ (c.setRoad x).s.seq.test = c.s.seq.test ∧
    (c.setRoad x).s.seq.proven = c.s.seq.proven ∧ (c.setRoad x).s.seq.permission = c.s.seq.permission ∧
    (c.setRoad x).s.prv.contacts = c.s.prv.contacts ∧ (c.setRoad x).s.prv.masks = c.s.prv.masks ∧
    (c.setRoad x).s.prv.booms = c.s.prv.booms := by
  and_intros <;> simp only [Ctx.setRoad] <;> (repeat' split) <;> simp

@[simp] theorem Ctx.boomGoTest_keeps (c : Ctx) (b : Boom) :
    (c.boomGoTest b).s.prv.contacts = c.s.prv.contacts ∧ (c.boomGoTest b).s.prv.masks = c.s.prv.masks ∧
    (c.boomGoTest b).s.prv.lamps = c.s.prv.lamps := by
  and_intros <;> simp only [Ctx.boomGoTest] <;> (repeat' split) <;> simp

@[simp] theorem Ctx.boomCause_keeps (c : Ctx) (b : Boom) (x : BoomCause) :
    (c.boomCause b x).s.prv.contacts = c.s.prv.contacts ∧ (c.boomCause b x).s.prv.masks = c.s.prv.masks ∧
    (c.boomCause b x).s.prv.lamps = c.s.prv.lamps := by
  and_intros <;> simp only [Ctx.boomCause] <;> (repeat' split) <;> simp

@[simp] theorem Ctx.handTarget_keeps (c : Ctx) (b : Boom) (t : Target) :
    (c.handTarget b t).s.seq.state = c.s.seq.state ∧ (c.handTarget b t).s.seq.entered = c.s.seq.entered ∧
    (c.handTarget b t).s.seq.demands = c.s.seq.demands ∧ (c.handTarget b t).s.seq.amberDue = c.s.seq.amberDue ∧
    (c.handTarget b t).s.seq.redWarnDue = c.s.seq.redWarnDue ∧ (c.handTarget b t).s.seq.entryDue = c.s.seq.entryDue ∧
    (c.handTarget b t).s.seq.settleDue = c.s.seq.settleDue ∧
    (c.handTarget b t).s.seq.clearLimitDue = c.s.seq.clearLimitDue ∧
    (c.handTarget b t).s.seq.exitDue = c.s.seq.exitDue ∧
    (c.handTarget b t).s.seq.minClosedDue = c.s.seq.minClosedDue ∧
    (c.handTarget b t).s.seq.raiseDue = c.s.seq.raiseDue ∧ (c.handTarget b t).s.seq.testDue = c.s.seq.testDue ∧
    (c.handTarget b t).s.seq.lamps = c.s.seq.lamps ∧ (c.handTarget b t).s.seq.audible = c.s.seq.audible ∧
    (c.handTarget b t).s.seq.flasher = c.s.seq.flasher ∧ (c.handTarget b t).s.seq.test = c.s.seq.test ∧
    (c.handTarget b t).s.seq.proven = c.s.seq.proven ∧ (c.handTarget b t).s.seq.permission = c.s.seq.permission ∧
    (c.handTarget b t).s.prv.lamps = c.s.prv.lamps := by
  and_intros <;> simp only [Ctx.handTarget] <;> (repeat' split) <;> simp

@[simp] theorem Ctx.handAll_keeps (c : Ctx) (l : List Boom) (t : Target) :
    (c.handAll l t).s.seq.state = c.s.seq.state ∧ (c.handAll l t).s.seq.entered = c.s.seq.entered ∧
    (c.handAll l t).s.seq.demands = c.s.seq.demands ∧ (c.handAll l t).s.seq.amberDue = c.s.seq.amberDue ∧
    (c.handAll l t).s.seq.redWarnDue = c.s.seq.redWarnDue ∧ (c.handAll l t).s.seq.entryDue = c.s.seq.entryDue ∧
    (c.handAll l t).s.seq.settleDue = c.s.seq.settleDue ∧
    (c.handAll l t).s.seq.clearLimitDue = c.s.seq.clearLimitDue ∧ (c.handAll l t).s.seq.exitDue = c.s.seq.exitDue ∧
    (c.handAll l t).s.seq.minClosedDue = c.s.seq.minClosedDue ∧ (c.handAll l t).s.seq.raiseDue = c.s.seq.raiseDue ∧
    (c.handAll l t).s.seq.testDue = c.s.seq.testDue ∧ (c.handAll l t).s.seq.lamps = c.s.seq.lamps ∧
    (c.handAll l t).s.seq.audible = c.s.seq.audible ∧ (c.handAll l t).s.seq.flasher = c.s.seq.flasher ∧
    (c.handAll l t).s.seq.test = c.s.seq.test ∧ (c.handAll l t).s.seq.proven = c.s.seq.proven ∧
    (c.handAll l t).s.seq.permission = c.s.seq.permission ∧ (c.handAll l t).s.prv.lamps = c.s.prv.lamps := by
  and_intros <;> simp only [Ctx.handAll] <;> (repeat' split) <;> simp

@[simp] theorem Ctx.arrestBoom_keeps (c : Ctx) (b : Boom) :
    (c.arrestBoom b).s.seq.state = c.s.seq.state ∧ (c.arrestBoom b).s.seq.entered = c.s.seq.entered ∧
    (c.arrestBoom b).s.seq.demands = c.s.seq.demands ∧ (c.arrestBoom b).s.seq.amberDue = c.s.seq.amberDue ∧
    (c.arrestBoom b).s.seq.redWarnDue = c.s.seq.redWarnDue ∧ (c.arrestBoom b).s.seq.entryDue = c.s.seq.entryDue ∧
    (c.arrestBoom b).s.seq.settleDue = c.s.seq.settleDue ∧
    (c.arrestBoom b).s.seq.clearLimitDue = c.s.seq.clearLimitDue ∧ (c.arrestBoom b).s.seq.exitDue = c.s.seq.exitDue ∧
    (c.arrestBoom b).s.seq.minClosedDue = c.s.seq.minClosedDue ∧ (c.arrestBoom b).s.seq.raiseDue = c.s.seq.raiseDue ∧
    (c.arrestBoom b).s.seq.testDue = c.s.seq.testDue ∧ (c.arrestBoom b).s.seq.lamps = c.s.seq.lamps ∧
    (c.arrestBoom b).s.seq.audible = c.s.seq.audible ∧ (c.arrestBoom b).s.seq.flasher = c.s.seq.flasher ∧
    (c.arrestBoom b).s.seq.test = c.s.seq.test ∧ (c.arrestBoom b).s.seq.proven = c.s.seq.proven ∧
    (c.arrestBoom b).s.seq.permission = c.s.seq.permission := by
  and_intros <;> simp only [Ctx.arrestBoom] <;> (repeat' split) <;> simp

@[simp] theorem Ctx.changeTo_keeps (c : Ctx) (x : Crossing) :
    (c.changeTo x).s.seq.demands = c.s.seq.demands ∧ (c.changeTo x).s.seq.amberDue = c.s.seq.amberDue ∧
    (c.changeTo x).s.seq.redWarnDue = c.s.seq.redWarnDue ∧ (c.changeTo x).s.seq.entryDue = c.s.seq.entryDue ∧
    (c.changeTo x).s.seq.settleDue = c.s.seq.settleDue ∧ (c.changeTo x).s.seq.clearLimitDue = c.s.seq.clearLimitDue ∧
    (c.changeTo x).s.seq.exitDue = c.s.seq.exitDue ∧ (c.changeTo x).s.seq.minClosedDue = c.s.seq.minClosedDue ∧
    (c.changeTo x).s.seq.raiseDue = c.s.seq.raiseDue ∧ (c.changeTo x).s.seq.testDue = c.s.seq.testDue ∧
    (c.changeTo x).s.seq.drives = c.s.seq.drives ∧ (c.changeTo x).s.seq.lamps = c.s.seq.lamps ∧
    (c.changeTo x).s.seq.audible = c.s.seq.audible ∧ (c.changeTo x).s.seq.flasher = c.s.seq.flasher ∧
    (c.changeTo x).s.seq.test = c.s.seq.test ∧ (c.changeTo x).s.seq.permission = c.s.seq.permission := by
  and_intros <;> simp only [Ctx.changeTo] <;> (repeat' split) <;> simp

@[simp] theorem Ctx.setLamp_settled (c : Ctx) (i : Lamp) (x : LampCmd) : (c.setLamp i x).s.prv.settled = c.s.prv.settled :=
  Proving.settled_congr _ _ (by simp)

@[simp] theorem Ctx.startReds_settled (c : Ctx) : (c.startReds).s.prv.settled = c.s.prv.settled :=
  Proving.settled_congr _ _ (by simp)

@[simp] theorem Ctx.syncFlasher_settled (c : Ctx) : (c.syncFlasher).s.prv.settled = c.s.prv.settled :=
  Proving.settled_congr _ _ (by simp)

@[simp] theorem Ctx.setRoad_settled (c : Ctx) (x : Crossing) : (c.setRoad x).s.prv.settled = c.s.prv.settled :=
  Proving.settled_congr _ _ (by simp)

@[simp] theorem Ctx.boomGoTest_settled (c : Ctx) (b : Boom) : (c.boomGoTest b).s.prv.settled = c.s.prv.settled :=
  Proving.settled_congr _ _ (by simp)

@[simp] theorem Ctx.boomCause_settled (c : Ctx) (b : Boom) (x : BoomCause) : (c.boomCause b x).s.prv.settled = c.s.prv.settled :=
  Proving.settled_congr _ _ (by simp)

@[simp] theorem Ctx.handTarget_settled (c : Ctx) (b : Boom) (t : Target) :
    (c.handTarget b t).s.prv.settled = c.s.prv.settled := by
  simp only [Ctx.handTarget] <;> (repeat' split) <;> simp

@[simp] theorem Ctx.handAll_settled (c : Ctx) (l : List Boom) (t : Target) :
    (c.handAll l t).s.prv.settled = c.s.prv.settled := by
  simp only [Ctx.handAll] <;> (repeat' split) <;> simp

@[simp] theorem Ctx.enterAmber_keeps (c : Ctx) :
    (c.enterAmber).s.seq.demands = c.s.seq.demands ∧ (c.enterAmber).s.seq.test = c.s.seq.test ∧
    (c.enterAmber).s.seq.testDue = c.s.seq.testDue ∧ (c.enterAmber).s.seq.permission = c.s.seq.permission ∧
    (c.enterAmber).s.prv.settled = c.s.prv.settled := by
  and_intros <;> simp only [Ctx.enterAmber] <;> (repeat' split) <;> simp

@[simp] theorem Ctx.enterRedWarn_keeps (c : Ctx) :
    (c.enterRedWarn).s.seq.demands = c.s.seq.demands ∧ (c.enterRedWarn).s.seq.test = c.s.seq.test ∧
    (c.enterRedWarn).s.seq.testDue = c.s.seq.testDue ∧ (c.enterRedWarn).s.seq.permission = c.s.seq.permission ∧
    (c.enterRedWarn).s.prv.settled = c.s.prv.settled := by
  and_intros <;> simp only [Ctx.enterRedWarn] <;> (repeat' split) <;> simp

@[simp] theorem Ctx.enterClearance_keeps (c : Ctx) :
    (c.enterClearance).s.seq.demands = c.s.seq.demands ∧ (c.enterClearance).s.seq.test = c.s.seq.test ∧
    (c.enterClearance).s.seq.testDue = c.s.seq.testDue ∧ (c.enterClearance).s.seq.permission = c.s.seq.permission ∧
    (c.enterClearance).s.prv.settled = c.s.prv.settled := by
  and_intros <;> simp only [Ctx.enterClearance] <;> (repeat' split) <;> simp

@[simp] theorem Ctx.entryDownTest_keeps (c : Ctx) :
    (c.entryDownTest).s.seq.demands = c.s.seq.demands ∧ (c.entryDownTest).s.seq.test = c.s.seq.test ∧
    (c.entryDownTest).s.seq.testDue = c.s.seq.testDue ∧ (c.entryDownTest).s.seq.permission = c.s.seq.permission ∧
    (c.entryDownTest).s.prv.settled = c.s.prv.settled := by
  and_intros <;> simp only [Ctx.entryDownTest] <;> (repeat' split) <;> simp

@[simp] theorem Ctx.enterEntryLower_keeps (c : Ctx) :
    (c.enterEntryLower).s.seq.demands = c.s.seq.demands ∧ (c.enterEntryLower).s.seq.test = c.s.seq.test ∧
    (c.enterEntryLower).s.seq.testDue = c.s.seq.testDue ∧ (c.enterEntryLower).s.seq.permission = c.s.seq.permission ∧
    (c.enterEntryLower).s.prv.settled = c.s.prv.settled := by
  and_intros <;> simp only [Ctx.enterEntryLower] <;> (repeat' split) <;> simp

@[simp] theorem Ctx.closeCore_keeps (c : Ctx) :
    (c.closeCore).s.seq.demands = c.s.seq.demands ∧ (c.closeCore).s.seq.test = c.s.seq.test ∧
    (c.closeCore).s.seq.testDue = c.s.seq.testDue ∧ (c.closeCore).s.seq.permission = c.s.seq.permission ∧
    (c.closeCore).s.prv.settled = c.s.prv.settled := by
  and_intros <;> simp only [Ctx.closeCore] <;> (repeat' split) <;> simp

@[simp] theorem Ctx.interruptRaising_keeps (c : Ctx) :
    (c.interruptRaising).s.seq.demands = c.s.seq.demands ∧ (c.interruptRaising).s.seq.test = c.s.seq.test ∧
    (c.interruptRaising).s.seq.testDue = c.s.seq.testDue ∧
    (c.interruptRaising).s.seq.permission = c.s.seq.permission ∧ (c.interruptRaising).s.prv.settled = c.s.prv.settled := by
  and_intros <;> simp only [Ctx.interruptRaising] <;> (repeat' split) <;> simp

@[simp] theorem Ctx.enterOpen_keeps (c : Ctx) :
    (c.enterOpen).s.seq.demands = c.s.seq.demands ∧ (c.enterOpen).s.seq.test = c.s.seq.test ∧
    (c.enterOpen).s.seq.testDue = c.s.seq.testDue ∧ (c.enterOpen).s.seq.permission = c.s.seq.permission ∧
    (c.enterOpen).s.prv.settled = c.s.prv.settled := by
  and_intros <;> simp only [Ctx.enterOpen] <;> (repeat' split) <;> simp

@[simp] theorem Ctx.enterRaising_keeps (c : Ctx) :
    (c.enterRaising).s.seq.demands = c.s.seq.demands ∧ (c.enterRaising).s.seq.test = c.s.seq.test ∧
    (c.enterRaising).s.seq.testDue = c.s.seq.testDue ∧ (c.enterRaising).s.seq.permission = c.s.seq.permission ∧
    (c.enterRaising).s.prv.settled = c.s.prv.settled := by
  and_intros <;> simp only [Ctx.enterRaising] <;> (repeat' split) <;> simp

@[simp] theorem Ctx.openingCheck_keeps (c : Ctx) :
    (c.openingCheck).s.seq.demands = c.s.seq.demands ∧ (c.openingCheck).s.seq.test = c.s.seq.test ∧
    (c.openingCheck).s.seq.testDue = c.s.seq.testDue ∧ (c.openingCheck).s.seq.permission = c.s.seq.permission ∧
    (c.openingCheck).s.prv.settled = c.s.prv.settled := by
  and_intros <;> simp only [Ctx.openingCheck] <;> (repeat' split) <;> simp

@[simp] theorem Ctx.enterClosed_keeps (c : Ctx) :
    (c.enterClosed).s.seq.demands = c.s.seq.demands ∧ (c.enterClosed).s.seq.test = c.s.seq.test ∧
    (c.enterClosed).s.seq.testDue = c.s.seq.testDue ∧ (c.enterClosed).s.seq.permission = c.s.seq.permission ∧
    (c.enterClosed).s.prv.settled = c.s.prv.settled := by
  and_intros <;> simp only [Ctx.enterClosed] <;> (repeat' split) <;> simp

@[simp] theorem Ctx.enterExitLower_keeps (c : Ctx) :
    (c.enterExitLower).s.seq.demands = c.s.seq.demands ∧ (c.enterExitLower).s.seq.test = c.s.seq.test ∧
    (c.enterExitLower).s.seq.testDue = c.s.seq.testDue ∧ (c.enterExitLower).s.seq.permission = c.s.seq.permission ∧
    (c.enterExitLower).s.prv.settled = c.s.prv.settled := by
  and_intros <;> simp only [Ctx.enterExitLower] <;> (repeat' split) <;> simp

@[simp] theorem Ctx.enterStartClose_keeps (c : Ctx) :
    (c.enterStartClose).s.seq.demands = c.s.seq.demands ∧ (c.enterStartClose).s.seq.test = c.s.seq.test ∧
    (c.enterStartClose).s.seq.testDue = c.s.seq.testDue ∧ (c.enterStartClose).s.seq.permission = c.s.seq.permission ∧
    (c.enterStartClose).s.prv.settled = c.s.prv.settled := by
  and_intros <;> simp only [Ctx.enterStartClose] <;> (repeat' split) <;> simp

@[simp] theorem Ctx.raise_keeps (c : Ctx) (k : DemandKey) :
    (c.raise k).s.seq.test = c.s.seq.test ∧ (c.raise k).s.seq.testDue = c.s.seq.testDue ∧
    (c.raise k).s.seq.permission = c.s.seq.permission ∧ (c.raise k).s.prv.settled = c.s.prv.settled := by
  and_intros <;> simp only [Ctx.raise] <;> (repeat' split) <;> simp

@[simp] theorem Ctx.withdraw_keeps (c : Ctx) (k : DemandKey) :
    (c.withdraw k).s.seq.test = c.s.seq.test ∧ (c.withdraw k).s.seq.testDue = c.s.seq.testDue ∧
    (c.withdraw k).s.seq.permission = c.s.seq.permission ∧ (c.withdraw k).s.prv.settled = c.s.prv.settled := by
  and_intros <;> simp only [Ctx.withdraw] <;> (repeat' split) <;> simp

@[simp] theorem Ctx.demand_keeps (c : Ctx) (k : DemandKey) (b : Bool) :
    (c.demand k b).s.seq.test = c.s.seq.test ∧ (c.demand k b).s.seq.testDue = c.s.seq.testDue ∧
    (c.demand k b).s.seq.permission = c.s.seq.permission ∧ (c.demand k b).s.prv.settled = c.s.prv.settled := by
  and_intros <;> simp only [Ctx.demand] <;> (repeat' split) <;> simp

@[simp] theorem Ctx.syncDemand_keeps (c : Ctx) (i : Slot) :
    (c.syncDemand i).s.seq.test = c.s.seq.test ∧ (c.syncDemand i).s.seq.testDue = c.s.seq.testDue ∧
    (c.syncDemand i).s.seq.permission = c.s.seq.permission ∧ (c.syncDemand i).s.prv.settled = c.s.prv.settled := by
  and_intros <;> simp only [Ctx.syncDemand] <;> (repeat' split) <;> simp

@[simp] theorem Ctx.deriveClosure_keeps (c : Ctx) :
    (c.deriveClosure).s.seq.state = c.s.seq.state ∧ (c.deriveClosure).s.seq.entered = c.s.seq.entered ∧
    (c.deriveClosure).s.seq.demands = c.s.seq.demands ∧ (c.deriveClosure).s.seq.amberDue = c.s.seq.amberDue ∧
    (c.deriveClosure).s.seq.redWarnDue = c.s.seq.redWarnDue ∧ (c.deriveClosure).s.seq.entryDue = c.s.seq.entryDue ∧
    (c.deriveClosure).s.seq.settleDue = c.s.seq.settleDue ∧
    (c.deriveClosure).s.seq.clearLimitDue = c.s.seq.clearLimitDue ∧
    (c.deriveClosure).s.seq.exitDue = c.s.seq.exitDue ∧ (c.deriveClosure).s.seq.minClosedDue = c.s.seq.minClosedDue ∧
    (c.deriveClosure).s.seq.raiseDue = c.s.seq.raiseDue ∧ (c.deriveClosure).s.seq.testDue = c.s.seq.testDue ∧
    (c.deriveClosure).s.seq.drives = c.s.seq.drives ∧ (c.deriveClosure).s.seq.lamps = c.s.seq.lamps ∧
    (c.deriveClosure).s.seq.audible = c.s.seq.audible ∧ (c.deriveClosure).s.seq.flasher = c.s.seq.flasher ∧
    (c.deriveClosure).s.seq.test = c.s.seq.test ∧ (c.deriveClosure).s.seq.permission = c.s.seq.permission := by
  and_intros <;> simp only [Ctx.deriveClosure] <;> (repeat' split) <;> simp

@[simp] theorem Ctx.deriveIndicator_keeps (c : Ctx) (k : Track) :
    (c.deriveIndicator k).s.seq.state = c.s.seq.state ∧ (c.deriveIndicator k).s.seq.entered = c.s.seq.entered ∧
    (c.deriveIndicator k).s.seq.demands = c.s.seq.demands ∧ (c.deriveIndicator k).s.seq.amberDue = c.s.seq.amberDue ∧
    (c.deriveIndicator k).s.seq.redWarnDue = c.s.seq.redWarnDue ∧
    (c.deriveIndicator k).s.seq.entryDue = c.s.seq.entryDue ∧
    (c.deriveIndicator k).s.seq.settleDue = c.s.seq.settleDue ∧
    (c.deriveIndicator k).s.seq.clearLimitDue = c.s.seq.clearLimitDue ∧
    (c.deriveIndicator k).s.seq.exitDue = c.s.seq.exitDue ∧
    (c.deriveIndicator k).s.seq.minClosedDue = c.s.seq.minClosedDue ∧
    (c.deriveIndicator k).s.seq.raiseDue = c.s.seq.raiseDue ∧ (c.deriveIndicator k).s.seq.testDue = c.s.seq.testDue ∧
    (c.deriveIndicator k).s.seq.drives = c.s.seq.drives ∧ (c.deriveIndicator k).s.seq.audible = c.s.seq.audible ∧
    (c.deriveIndicator k).s.seq.flasher = c.s.seq.flasher ∧ (c.deriveIndicator k).s.seq.test = c.s.seq.test ∧
    (c.deriveIndicator k).s.seq.proven = c.s.seq.proven ∧
    (c.deriveIndicator k).s.seq.permission = c.s.seq.permission ∧
    (c.deriveIndicator k).s.prv.contacts = c.s.prv.contacts ∧ (c.deriveIndicator k).s.prv.masks = c.s.prv.masks ∧
    (c.deriveIndicator k).s.prv.booms = c.s.prv.booms ∧ (c.deriveIndicator k).s.prv.settled = c.s.prv.settled := by
  and_intros <;> simp only [Ctx.deriveIndicator] <;> (repeat' split) <;> simp

@[simp] theorem Ctx.setEntry_keeps (c : Ctx) (p : Point) (e : FaultEntry) :
    (c.setEntry p e).s.flt.present = c.s.flt.present ∧ (c.setEntry p e).s.flt.mode = c.s.flt.mode := ⟨rfl, rfl⟩

@[simp] theorem Ctx.takeNotice_keeps (c : Ctx) (n : Notice) :
    (c.takeNotice n).s.flt.mode = c.s.flt.mode := by
  simp only [Ctx.takeNotice] <;> (repeat' split) <;> simp

@[simp] theorem Ctx.unflag_keeps (c : Ctx) (p : Point) :
    (c.unflag p).s.flt.present = c.s.flt.present ∧ (c.unflag p).s.flt.mode = c.s.flt.mode := by
  and_intros <;> simp only [Ctx.unflag] <;> (repeat' split) <;> simp

@[simp] theorem Ctx.closeReports_keeps (c : Ctx) :
    (c.closeReports).s.flt.present = c.s.flt.present ∧ (c.closeReports).s.flt.mode = c.s.flt.mode := by
  and_intros <;> simp only [Ctx.closeReports] <;> (repeat' split) <;> simp

@[simp] theorem Ctx.takeExit_keeps (c : Ctx) :
    (c.takeExit).s.seq.demands = c.s.seq.demands ∧ (c.takeExit).s.seq.permission = c.s.seq.permission ∧
    (c.takeExit).s.prv.settled = c.s.prv.settled := by
  and_intros <;> simp only [Ctx.takeExit] <;> (repeat' split) <;> simp

theorem Ctx.takeExit_none (c : Ctx) (h : c.exit = none) : c.takeExit = c := by simp [Ctx.takeExit, h]

/-- With no maintenance exit, the end of an event touches closure proven and the indicators' commands alone of the
Sequence Controller, and the lamps alone of the Proving Unit. -/
theorem Ctx.finish_keeps (c : Ctx) (h : c.exit = none) :
    c.finish.s.seq.state = c.s.seq.state ∧ c.finish.s.seq.entered = c.s.seq.entered ∧
    c.finish.s.seq.demands = c.s.seq.demands ∧ c.finish.s.seq.amberDue = c.s.seq.amberDue ∧
    c.finish.s.seq.redWarnDue = c.s.seq.redWarnDue ∧ c.finish.s.seq.entryDue = c.s.seq.entryDue ∧
    c.finish.s.seq.settleDue = c.s.seq.settleDue ∧ c.finish.s.seq.clearLimitDue = c.s.seq.clearLimitDue ∧
    c.finish.s.seq.exitDue = c.s.seq.exitDue ∧ c.finish.s.seq.minClosedDue = c.s.seq.minClosedDue ∧
    c.finish.s.seq.raiseDue = c.s.seq.raiseDue ∧ c.finish.s.seq.testDue = c.s.seq.testDue ∧
    c.finish.s.seq.drives = c.s.seq.drives ∧ c.finish.s.seq.audible = c.s.seq.audible ∧
    c.finish.s.seq.flasher = c.s.seq.flasher ∧ c.finish.s.seq.test = c.s.seq.test ∧
    c.finish.s.seq.permission = c.s.seq.permission ∧ c.finish.s.prv.contacts = c.s.prv.contacts ∧
    c.finish.s.prv.masks = c.s.prv.masks ∧ c.finish.s.prv.booms = c.s.prv.booms ∧
    c.finish.s.prv.settled = c.s.prv.settled := by
  and_intros <;> simp [Ctx.finish, Ctx.takeExit_none c h]

end Sys2Proof.Machine
end

