-- ==== Sys2Proof/Tests/Slice0.lean ====
section
/-! SUPPORT. The model's own tests: ill-formed commands refused, layouts against the manual's examples, and for each
obligation with hypotheses a state that meets them, with what its command does there. -/

namespace Sys2Proof.Tests

-- One proof at a time: the kernel evaluations below need no threads of their own.
set_option Elab.async false

open Sys2Proof Sys2Proof.Machine

/-! ## Well-formedness: one ill-formed command for each check -/

theorem test_wf_refuses_long_body : (Instr.poll (List.replicate 61 0)).wf = false := by decide
theorem test_wf_refuses_signaller_kind : (Instr.frameRefusedKind 0x0C []).wf = false := by decide
theorem test_wf_refuses_wide_byte : (Instr.hostWrite 0 false 0x100).wf = false := by decide
theorem test_wf_refuses_short_record : (Instr.outboxFetchComplete (List.replicate 31 0)).wf = false := by decide
theorem test_wf_refuses_late_break : (Instr.linkBreak 0xFFFFFF00).wf = false := by decide

theorem test_wf_takes_boundary_operands :
    (Instr.poll (List.replicate 60 0)).wf = true ∧ (Instr.frameRefusedKind 0x0D []).wf = true ∧
    (Instr.hostWrite 0 false 0xFF).wf = true ∧ (Instr.outboxFetchComplete (List.replicate 32 0)).wf = true ∧
    (Instr.linkBreak 0xFFFFFEFF).wf = true := by decide

/-! ## Layouts -/

/-- R195's 16-bit check of the characters 1 to 9. -/
theorem test_check16 : check16 [0x31, 0x32, 0x33, 0x34, 0x35, 0x36, 0x37, 0x38, 0x39] = 0x29B1 := by decide +kernel
theorem test_pollFrame : pollFrame 2 .clearHalf = [3, 1, 0xFC] := by decide
theorem test_image_length : (imageBytes State.reset).length = 1024 := by decide +kernel
theorem test_no_row_has_bits : decodeTableWord 8 1 = none := by decide

/-! ## States for the tests -/

/-- The state an outcome answers. -/
def out : Host.Outcome State Fault Refusal → State
  | .next t => t
  | .fault _ | .refused _ => State.reset

def after (c : Instr) (s : State) : State := out (exec c s)

def windows : List Window :=
  [⟨.image, 0x100, 4⟩, ⟨.command, 0x104, 1⟩, ⟨.eventRing, 0x110, 1⟩, ⟨.outbox, 0x120, 1⟩, ⟨.guarded, 0x130, 1⟩]

def closedContact : Contact := ⟨true, true, none⟩
def openContact : Contact := ⟨false, false, none⟩

/-- Contacts with every boom at one end, the detector CLEAR and the supply good. -/
def contactsAt (up : Bool) : Vector Contact 16 :=
  let u : Contact := if up then closedContact else openContact
  let d : Contact := if up then openContact else closedContact
  let i := closedContact
  #v[u, d, i, u, d, i, u, d, i, u, d, i, closedContact, closedContact, closedContact, openContact]

def head : HeadRec := ⟨.active, 10, 20, 0, 0, some 900, false, false⟩

/-- A running part at 1,000: OPEN, every boom UP, every section CLEAR, every head ACTIVE, windows in force. -/
def quiet : State :=
  { State.reset with
    running := true
    now := 1000
    line := { HeadLine.reset with recs := Vector.replicate 8 head }
    secs := ⟨Vector.replicate 6 ⟨.clear, 0, false, none⟩, none⟩
    seq := { Sequence.reset with state := .opened, drives := Vector.replicate 4 ⟨.raise, .raise, none⟩ }
    prv := { State.reset.prv with contacts := contactsAt true }
    bus := { Bus.reset with windows := windows, ring := ⟨[], 0, 0, 0, .idle, 0, false⟩ } }

/-- The same part CLOSED, every boom DOWN, with a signaller's hold. -/
def shut : State :=
  { quiet with
    seq := { quiet.seq with
      state := .closed, proven := true, demands := { DemandSet.empty with signallerHold := some 500 }
      drives := Vector.replicate 4 ⟨.lower, .lower, none⟩, lamps := #v[.dark, .flash, .flash, .dark, .flash, .flash, .dark, .dark]
      flasher := some ⟨false, 2600⟩ }
    prv := { quiet.prv with contacts := contactsAt false } }

def inState (x : Crossing) (s : State) : State := { s with seq := { s.seq with state := x, proven := false } }

/-- A record of three wheels on its entry approach. -/
def train : TrainRec :=
  ⟨1, .t1, .a, 3, 0, 0, .ab, .approaching, some 800, some 800, some 800, 1, none, false, none, 32000, 60000,
    false, false, none, false, false, false, true, none⟩

def withTrain (r : TrainRec) (s : State) : State :=
  { s with
    trk := ⟨#v[some r, none, none, none, none, none, none, none], #v[1, 0, 0, 0, 0, 0, 0, 0], [0], []⟩
    secs := { s.secs with table := put s.secs.table 0 ⟨.occupied, 3, false, none⟩ } }

def reply (ab ba : Byte) : GoodReply := ⟨ab, ba, 700, false, false, false, 1000⟩
def offer (h : Head) (g : Option GoodReply) : OutcomeRec :=
  ⟨h, .read, if g.isSome then .good else .silent, .active, 10, 20, g⟩
def offering (o : OutcomeRec) (s : State) : State := { s with line := { s.line with offered := some o } }
def moving (m : Movement) (s : State) : State := { s with secs := { s.secs with movement := some m } }
def withSeq (f : Sequence → Sequence) (s : State) : State := { s with seq := f s.seq }
def withPrv (f : Proving → Proving) (s : State) : State := { s with prv := f s.prv }
def withLink (f : Link → Link) (s : State) : State := { s with link := f s.link }
def withBus (f : Bus → Bus) (s : State) : State := { s with bus := f s.bus }
def testing : State :=
  { inState .test quiet with
    seq := { (inState .test quiet).seq with
      test := some ⟨Vector.replicate 6 .dark, Vector.replicate 2 false, Vector.replicate 4 .raise⟩ }
    flt := { quiet.flt with mode := .maintenance } }
def args (a b : Word) (s : State) : State := { s with cmd := upd s.cmd 0 fun x => { x with argA := a, argB := b } }
/-- The trigger of command slot 0. -/
def trig : Addr := 0x10400

/-- The events staged. -/
def evs (s : State) : List EventBody := s.bus.ring.staging.map (·.body)
def busy (who : Claimant) (s : State) : State := withBus (fun b => { b with port := some ⟨who, ⟨0, false, 2, []⟩⟩ }) s
def portHas (s : State) (who : Claimant) (a : MemAccess) : Bool := s.bus.port == some ⟨who, a⟩

theorem test_windows_are_legal : windowsLegal windows = true := by decide
theorem test_trigger_address :
    windowAt quiet.bus.windows trig.toNat = some ⟨.command, 0x104, 1⟩ ∧ trig.toNat = 256 * 0x104 + 32 * 0 := by decide

/-! ## The queue, time and the resets -/

theorem test_step_takes_the_front :
    let s := { quiet with pending := [.poll [0], .flashPhaseExpiry] }
    (out (step s)).pending = [.flashPhaseExpiry] ∧ ((out (step s)).link.lastWhole) = some 1000 := by decide +kernel

theorem test_tick_rises_ends_and_idles :
    (out (step quiet)).now = 1001 ∧ (out (step { quiet with now := 0xFFFFFEFF })).running = false ∧
    step State.reset = .next State.reset := ⟨by decide +kernel, by decide +kernel, rfl⟩

theorem test_pins_move_in_part_reset :
    (State.reset.running = false ∧ (State.reset.prv.contacts[0]).raw = false) ∧
    ((after (.contactInputChange 0 true) State.reset).prv.contacts[0]).raw = true ∧
    ((after (.contactInputChange 0 true) State.reset).prv.contacts[0]).due = none ∧
    after .slotStart State.reset = State.reset := ⟨by decide, by decide, by decide, rfl⟩

theorem test_run_end_resets : (quiet.running = true) ∧ (after .runEndReset quiet).running = false := by decide

/-- The hypothesis of RunBegins. -/
theorem test_reset_is_in_reset : InReset State.reset State.reset :=
  ⟨fun p _ => by cases p <;> rfl, rfl, rfl, rfl, by decide, by decide⟩

theorem test_run_begins :
    (after .partResetEnd State.reset).bus.ring.staging.length = 14 ∧
    (after .partResetEnd State.reset).flt.mode = .failed ∧ (after .partResetEnd State.reset).queue.length = 7 := by
  decide +kernel

theorem test_host_reset_ends_maintenance :
    (testing.running = true ∧ testing.seq.state = .test ∧ (windowOf testing.bus.windows .outbox).isSome = true) ∧
    (after .hostReset testing).seq.test = none ∧ (after .hostReset testing).seq.state = .opened := by decide +kernel

theorem test_settled_part : Settled quiet :=
  ⟨by decide, by decide, fun k => by cases k <;> decide,
    fun i r h => by
      have none_at : ∀ i : Slot, quiet.trk.recs[i] = none := by decide
      rw [none_at i] at h; cases h⟩

theorem test_host_reset_keeps_the_port_and_is_staged :
    let s := withBus (fun b => { b with loaderClaim := some ⟨⟨2, false, 2, []⟩, 1⟩ }) (busy .upstream quiet)
    (s.seq.state ≠ .test ∧ s.bus.port.isSome = true ∧ s.bus.ring.missed = 0 ∧ windowOf ([] : List Window) .outbox = none) ∧
    evs (after .hostReset s) = [.hostReset] ∧ (after .hostReset s).bus.port = s.bus.port ∧
    (after .hostReset s).bus.loaderClaim = s.bus.loaderClaim ∧ (after .hostReset s).flt = s.flt := by decide +kernel

/-! ## The head line -/

theorem test_slot_polls_next_head :
    (quiet.line.phase = .idle ∧ quiet.line.offered = none ∧ quiet.line.slotStart + 12 < Config.runEnd) ∧
    (after .slotStart quiet).line.pollFrame = [1, 0, 0xFF] ∧ (after .slotStart quiet).line.phase = .poll := by decide +kernel

def polled : State := after .slotStart quiet
def listening : State := after (.replyWindowOpen false) polled

theorem test_window_opens_and_closes :
    (polled.line.phase = .poll ∧ listening.line.phase = .window ∧ listening.line.slotStart + 10 < Config.runEnd) ∧
    (after .replyWindowClose listening).line.offered.map (·.outcome) = some .silent ∧
    (after .headLineBreak listening).line.offered.map (·.outcome) = some .broken ∧
    (after (.replyWindowOpen true) polled).line.offered.map (·.outcome) = some .broken := by decide +kernel

/-- The characters of a reply of head 1, counts 11 and 20, transit 0102h, HALF set. -/
def replyChars : List Byte := [1, 11, 20, 2, 1, 2]

theorem test_reply_is_decided_by_its_seventh_character :
    (listening.line.chars.length + 1 < 7 ∧ (replyChars.length + 1 = 7)) ∧
    (let s := { listening with line := { listening.line with chars := replyChars } }
     ((after (.headReplyComplete 0xDB false false) s).line.offered.map (·.outcome)) = some .good ∧
     ((after (.headReplyComplete 0xDB false false) s).line.offered.bind (·.reply)).map (·.transit) = some 0x0102 ∧
     ((after (.headReplyCharacter 0xDC false false) s).line.offered.map (·.outcome)) = some .garbled) := by decide +kernel

/-! ## Takes and hand-overs -/

theorem test_miss_of_active_head :
    let s := offering (offer 1 none) quiet
    TakeReady s (offer 1 none) ∧ ((after .outcomeTake s).line.recs[1]).state = .missing := by
  unfold TakeReady; decide +kernel

/-- Head 2 in a state with its counts, offering an outcome. -/
def offeringIn (x : HeadState) (fails goods : Nat) (g : Option GoodReply) : State :=
  let s := offering { offer 1 g with stateBefore := x } quiet
  { s with line := { s.line with recs := put s.line.recs 1 { head with state := x, failCount := fails, goodCount := goods } } }

def takenAs (s : State) : HeadState × Nat × Nat :=
  let r := (after .outcomeTake s).line.recs[1]
  (r.state, r.failCount, r.goodCount)

theorem test_misses_by_state :
    takenAs (offeringIn .unknown 1 0 none) = (.unknown, 2, 0) ∧ takenAs (offeringIn .missing 2 0 none) = (.failed, 3, 0) ∧
    takenAs (offeringIn .failed 3 4 none) = (.failed, 3, 0) ∧ takenAs (offeringIn .settling 0 5 none) = (.failed, 3, 0) := by
  decide +kernel

theorem test_good_replies_by_state :
    let g := some (reply 200 20)
    (offeringIn .failed 3 4 g).line.offered.map (·.stateBefore) = some .failed ∧
    takenAs (offeringIn .unknown 1 0 g) = (.active, 0, 0) ∧ takenAs (offeringIn .failed 3 3 g) = (.failed, 3, 4) ∧
    takenAs (offeringIn .failed 3 4 g) = (.settling, 0, 5) ∧ takenAs (offeringIn .settling 0 5 g) = (.active, 0, 0) ∧
    takenAs (offeringIn .missing 1 0 (some (reply 10 84))) = (.active, 0, 0) := by decide +kernel

theorem test_sensor_fault_fails_head :
    let g := { reply 12 20 with sensorFault := true }
    let s := offering (offer 1 (some g)) quiet
    TakeReady s (offer 1 (some g)) ∧ ((after .outcomeTake s).line.recs[1]).state = .failed ∧
    ((after .outcomeTake s).secs.table[0]).reason = some .headFailed ∧
    ((after .outcomeTake s).secs.table[1]).reason = some .headFailed ∧ (after .outcomeTake s).seq.state = .amber := by
  unfold TakeReady; decide +kernel

theorem test_plausible_reply_forms_movement :
    let s := offering (offer 1 (some (reply 74 21))) quiet
    (TakeReady s (offer 1 (some (reply 74 21))) ∧ ((74 : Byte) - 10).toNat = 64) ∧
    (after .outcomeTake s).secs.movement = some ⟨1, .ab, 63, 1000, 700⟩ ∧
    ((after .outcomeTake s).line.recs[1]).heldAB = 74 := by unfold TakeReady; decide +kernel

theorem test_implausible_reply_fails_head :
    let s := offering (offer 1 (some (reply 75 20))) quiet
    ((75 : Byte) - 10).toNat = 65 ∧ ((after .outcomeTake s).secs.table[0]).reason = some .implausible ∧
    (after .outcomeTake s).secs.movement = none := by decide +kernel

theorem test_half_edge_disturbs :
    let g := { reply 12 20 with halfNow := true }
    let s := offering (offer 1 (some g)) quiet
    TakeReady s (offer 1 (some g)) ∧ ((after .outcomeTake s).secs.table[1]).reason = some .halfWheel := by
  unfold TakeReady; decide +kernel

theorem test_movement_into_island :
    let m : Movement := ⟨1, .ab, 2, 1000, 700⟩
    let s := moving m (withTrain train quiet)
    (m.leaves = .sec 0 ∧ m.enters = .sec 1 ∧ 0 < m.wheels ∧ m.wheels ≤ (s.secs.table[0]).count ∧
      (s.secs.table[1]).count + m.wheels ≤ 255) ∧
    (after .handOver s).secs.table[0] = ⟨.occupied, 1, false, none⟩ ∧
    (after .handOver s).secs.table[1] = ⟨.occupied, 2, false, none⟩ ∧
    ((after .handOver s).trk.recs[0]).map (·.status) = some .crossing ∧ (after .handOver s).seq.state = .amber := by
  decide +kernel

theorem test_strike_in_forms_record :
    let m : Movement := ⟨0, .ab, 4, 990, 700⟩
    let s := moving m quiet
    (m.leaves = .outside ∧ m.enters = .sec 0 ∧ (s.secs.table[0]).state ≠ .disturbed ∧
      (s.secs.table[0]).count + m.wheels ≤ 255 ∧ joining s (headTrack m.head) (headSide m.head) m.replyTime = none ∧
      slotAvailable s 0 = true ∧ s.pred.unit = none ∧ s.pred.queue = []) ∧
    ((after .handOver s).trk.recs[0]).map (·.wEntry) = some 4 ∧ (after .handOver s).trk.gens[0] = 1 ∧
    (after .handOver s).pred.unit.isSome = true ∧ (after .handOver s).trk.order1 = [0] := by decide +kernel

theorem test_strike_in_without_transit :
    let s := moving ⟨0, .ab, 4, 990, 0⟩ quiet
    ((after .handOver s).trk.recs[0]).map (·.speedUnknown) = some true ∧ (after .handOver s).seq.state = .amber := by
  decide +kernel

/-- A request queue that is full, none of its requests for slot 0. -/
def fullQueue (s : State) : State :=
  { s with pred := { s.pred with
      unit := some ⟨⟨7, 0, 0, 200, 400, 1, 0⟩, 990⟩
      queue := ([1, 2, 3, 4] : List Slot).map fun i => ⟨i, 0, 0, 200, 400, 1, 0⟩ } }

theorem test_strike_in_with_full_queue :
    let s := fullQueue (moving ⟨0, .ab, 4, 990, 700⟩ quiet)
    s.pred.queue.length = 4 ∧ ((after .handOver s).trk.recs[0]).map (·.deadline) = some (some ⟨990, true⟩) := by
  decide +kernel

theorem test_hand_over_disturbs :
    let few := moving ⟨1, .ab, 4, 1000, 0⟩ (withTrain train quiet)
    let tooMany : State := { withTrain train quiet with
      secs := ⟨put (withTrain train quiet).secs.table 1 ⟨.occupied, 254, false, none⟩, some ⟨1, .ab, 2, 1000, 0⟩⟩ }
    ((few.secs.table[0]).count < 4 ∧ 255 < (tooMany.secs.table[1]).count + 2) ∧
    ((after .handOver few).secs.table[0]).reason = some .negative ∧
    ((after .handOver tooMany).secs.table[1]).reason = some .implausible := by decide +kernel

theorem test_full_list_disturbs :
    let s := moving ⟨4, .ab, 1, 1000, 0⟩ { quiet with
      trk := ⟨Vector.replicate 8 (some train), Vector.replicate 8 1, [0, 1, 2, 3, 4, 5, 6, 7], []⟩ }
    (∀ k : Slot, slotAvailable s k = false) ∧ ((after .handOver s).secs.table[3]).reason = some .listFull := by
  decide +kernel

theorem test_head_changes_are_staged_and_reported :
    let fails := after .outcomeTake (offeringIn .missing 2 0 none)
    let leaves := offeringIn .failed 3 4 (some (reply 200 20))
    let s := { leaves with flt := { leaves.flt with present := put leaves.flt.present (headPoint 1) true } }
    CausedBy (offer 1 none) .silent ∧ CausedBy (offer 1 (some (reply 74 21))) .good ∧
    CausedBy (offer 1 (some (reply 75 20))) .implausible ∧
    (evs fails).head? = some (.headState 1 .missing .failed .silent) ∧ fails.flt.present[headPoint 1] = true ∧
    evs (after .outcomeTake s) = [.headState 1 .failed .settling .good] ∧
    (after .outcomeTake s).flt.present[headPoint 1] = false := by
  refine ⟨rfl, ⟨rfl, rfl, fun _ => by decide⟩, ⟨rfl, rfl, Or.inl rfl, by decide⟩, ?_⟩
  decide +kernel

/-- A movement of the train into its island, and the states around it. -/
def intoIsland : Movement := ⟨1, .ab, 2, 1000, 700⟩

theorem test_first_giver : FirstGiver (moving intoIsland (withTrain train quiet)) 0 .ab 0 :=
  ⟨[], [], rfl, by decide⟩

theorem test_island_reports :
    let t := after .handOver (moving intoIsland (withTrain { train with status := .stopped } quiet))
    let u := after .handOver (moving intoIsland (withTrain { train with status := .stopped, proceedShown := true } shut))
    ((t.trk.recs[0]).map fun r => (r.overrunRep, r.unprotRep)) = some (true, true) ∧ t.queue.map (·.cls) = [.urgent] ∧
    ((u.trk.recs[0]).map fun r => (r.overrunRep, r.unprotRep, r.status)) = some (false, false, .crossing) ∧
    t.seq.demands.get (.record 0) = some 1000 := by decide +kernel

theorem test_wheels_leave_to_outside :
    let m : Movement := ⟨0, .ba, 3, 1000, 700⟩
    let gone := after .handOver (moving m (withTrain train quiet))
    let r := { train with entrySide := .b, wEntry := 0, wExit := 3, heading := .ba, status := .departing }
    (m.leaves = .sec 0 ∧ m.enters = .outside ∧ r.wheelsIn 0 = 3) ∧
    gone.trk.recs[0] = none ∧ EventBody.trainWithdrawn 0 1 ∈ evs gone ∧
    EventBody.trainPassed 0 1 ∈ evs (after .handOver (moving m (withTrain r quiet))) ∧
    ((after .handOver (moving { m with wheels := 2 } (withTrain r quiet))).trk.recs[0]).map (·.wExit) = some 1 := by
  decide +kernel

theorem test_wheels_join_within_the_gap :
    let m : Movement := ⟨0, .ab, 2, 4800, 0⟩
    let t := after .handOver (moving m (withTrain train quiet))
    let late := after .handOver (moving { m with replyTime := 4801 } (withTrain train quiet))
    (train.lastEntry = some 800 ∧ m.replyTime ≤ 800 + quiet.settings.trainGap ∧
      (withTrain train quiet).trk.order (headTrack m.head) = 0 :: []) ∧
    ((t.trk.recs[0]).map fun r => (r.wEntry, r.lastEntry, r.seq)) = some (5, some 4800, 1) ∧ t.trk.recs[1] = none ∧
    (late.trk.recs[1]).map (·.wEntry) = some 2 := by decide +kernel

theorem test_joining_wheels_offer_a_sample :
    let m : Movement := ⟨0, .ab, 2, 1000, 700⟩
    let s := fun (q : List Slot) => { moving m (withTrain train quiet) with
      pred := { quiet.pred with
        unit := some ⟨⟨7, 0, 0, 200, 400, 1, 0⟩, 990⟩
        queue := q.map fun i => ⟨i, 0, 0, 200, 400, 1, 0⟩ } }
    (after .handOver (s [5])).pred.queue.map (·.slot) = [5, 0] ∧ (after .handOver (s [0, 5])).pred.queue.map (·.seq) = [2, 0] ∧
    (after .handOver (s [1, 2, 3, 4])).pred.queue.length = 4 ∧
    ((after .handOver (s [1, 2, 3, 4])).trk.recs[0]).map (·.speedUnknown) = some true := by decide +kernel

theorem test_wheels_emerge :
    let lost : State := { quiet with secs := ⟨put quiet.secs.table 0 ⟨.disturbed, 0, false, some .negative⟩, none⟩ }
    let t := after .handOver (moving intoIsland lost)
    let few := after .handOver (moving ⟨2, .ab, 2, 1000, 700⟩ quiet)
    ((t.trk.recs[0]).map fun r => (r.status, r.wIsland, r.unprotRep, r.strikeIn)) = some (.crossing, 2, true, none) ∧
    t.queue.any (fun e => e.content.origin == .train && e.cls == .urgent) = true ∧
    ((few.trk.recs[0]).map fun r => (r.status, r.wExit, r.unprotRep)) = some (.departing, 2, false) ∧
    (few.secs.table[1]).reason = some .negative ∧ few.seq.demands.get (.record 0) = none := by decide +kernel

/-- The train in section 1 with one wheel in the entry approach and two in the island, both counted. -/
def spreadTrain : State :=
  let s := withTrain { train with wEntry := 1, wIsland := 2, status := .crossing } shut
  { s with secs := ⟨put (put s.secs.table 0 ⟨.occupied, 1, false, none⟩) 1 ⟨.occupied, 2, false, none⟩, none⟩ }

def section_ (i : Sec) (x : SecState) (n : Nat) (s : State) : State :=
  { s with secs := ⟨put s.secs.table i ⟨x, n, false, if x = .disturbed then some .startup else none⟩, s.secs.movement⟩ }

def lostReports (s : State) : List (Option Nat × Bool) :=
  s.queue.filterMap fun e => match e.content with | .train i _ _ _ k .. => some (some i.val, k.lost) | _ => none

/-- Wheels into a DISTURBED section: absorbed (R25), and lost to the record they are taken from (R42). -/
theorem test_wheels_into_disturbed_section_are_lost :
    let part := after .handOver (moving intoIsland (section_ 1 .disturbed 0 (withTrain train quiet)))
    let s := moving { intoIsland with wheels := 3 } (section_ 1 .disturbed 0 (withTrain train quiet))
    let all := after .handOver s
    (train.total = 3 ∧ (s.secs.table[1]).state = .disturbed ∧ s.trk.order .t1 = [0]) ∧
    part.secs.table[1] = s.secs.table[1] ∧ (part.trk.recs[0]).map (fun r => (r.wEntry, r.wIsland, r.heading)) = some (1, 0, .ab) ∧
    all.trk.recs[0] = none ∧ EventBody.trainLost 0 1 1 ∈ evs all ∧ lostReports all = [(some 0, true)] ∧
    all.secs.table[0] = ⟨.clear, 0, false, none⟩ := by decide +kernel

/-- The drop of R46: the record keeps what stands elsewhere, or is lost. -/
theorem test_newly_disturbed_section_drops_wheels :
    let past := moving ⟨2, .ba, 3, 1000, 0⟩ (section_ 2 .occupied 3 (section_ 1 .occupied 253 spreadTrain))
    let few := moving ⟨2, .ab, 3, 1000, 0⟩ spreadTrain
    let alone := moving ⟨2, .ab, 3, 1000, 0⟩ (section_ 1 .occupied 2 (withTrain
      { train with wEntry := 0, wIsland := 2, status := .crossing } shut))
    (255 < (past.secs.table[1]).count + 3 ∧ (few.secs.table[1]).count < 3) ∧
    ((after .handOver past).trk.recs[0]).map (fun r => (r.wEntry, r.wIsland, r.status)) = some (1, 0, .approaching) ∧
    ((after .handOver few).trk.recs[0]).map (fun r => (r.wEntry, r.wIsland, r.status)) = some (1, 0, .approaching) ∧
    ((after .handOver few).secs.table[1]).reason = some .negative ∧
    (after .handOver alone).trk.recs[0] = none ∧ EventBody.trainLost 0 1 1 ∈ evs (after .handOver alone) ∧
    lostReports (after .handOver alone) = [(some 0, true)] ∧
    ((after .handOver alone).trk.recs[1]).map (·.wExit) = some 3 := by decide +kernel

/-- The 255 boundary, and IMPLAUSIBLE ahead of LIST_FULL with no slot available (log 27). -/
theorem test_count_boundary_and_full_list :
    let s := fun n => moving ⟨4, .ab, 2, 1000, 0⟩ (section_ 3 .occupied n { quiet with
      trk := ⟨Vector.replicate 8 (some train), Vector.replicate 8 1, [0, 1, 2, 3, 4, 5, 6, 7], []⟩ })
    let one := fun n => moving ⟨4, .ab, 2, 1000, 0⟩ (section_ 3 .occupied n quiet)
    (∀ k : Slot, slotAvailable (s 0) k = false) ∧
    ((after .handOver (s 253)).secs.table[3]).reason = some .listFull ∧
    ((after .handOver (s 254)).secs.table[3]).reason = some .implausible ∧
    (after .handOver (one 253)).secs.table[3] = ⟨.occupied, 255, false, none⟩ ∧
    ((after .handOver (one 254)).secs.table[3]).reason = some .implausible := by decide +kernel

/-- Wheels that emerge from a section made NEGATIVE by their own hand-over, with no slot available (R47). -/
theorem test_full_list_beyond_negative_section :
    let s := moving ⟨1, .ab, 2, 1000, 0⟩ (section_ 0 .occupied 1 { quiet with
      trk := ⟨Vector.replicate 8 (some train), Vector.replicate 8 1, [0, 1, 2, 3, 4, 5, 6, 7], []⟩ })
    let t := after .handOver s
    (∀ k : Slot, slotAvailable s k = false) ∧ ((s.secs.table[0]).count < 2) ∧
    (t.secs.table[0]).reason = some .negative ∧ (t.secs.table[1]).reason = some .listFull ∧
    ((t.flt.table[secPoint 1]).cause) = some (.section_ .listFull) := by decide +kernel

/-! ## Record timers and predictions -/

theorem test_overdue_stops_at_halt :
    let r := { train with predicted := some 2000, margin := 10000 }
    let s := withTrain r quiet
    (r.status = .approaching ∧ r.overdueTime = 12000 ∧ isHalt r.approachSide = true) ∧
    ((after (.overdueExpiry 0) s).trk.recs[0]).map (·.status) = some .stopped ∧
    (after (.overdueExpiry 0) s).now = 12000 := by decide +kernel

theorem test_overdue_reports_elsewhere :
    let r := { train with entrySide := .b, heading := .ba, deadline := some ⟨500, true⟩ }
    let s := withTrain r shut
    (r.status = .approaching ∧ isHalt r.approachSide = false ∧ r.overdueRep = false) ∧
    ((after (.overdueExpiry 0) s).trk.recs[0]).map (·.overdueRep) = some true ∧
    (after (.overdueExpiry 0) s).queue.length = 1 := by decide +kernel

theorem test_restart_timeout :
    let r := { train with status := .stopped, restartReq := true, proceedShown := true, restartDue := some 5000 }
    let s := withTrain r shut
    (s.running = true ∧ r.restartDue = some 5000) ∧
    ((after (.restartTimeoutExpiry 0) s).trk.recs[0]).map (·.restartReq) = some false ∧
    (after (.restartTimeoutExpiry 0) s).now = 5000 := by decide +kernel

theorem test_deadline_closes_road :
    let r := { train with deadline := some ⟨3000, false⟩ }
    let s := withTrain r quiet
    (s.seq.state = .opened ∧ s.seq.demands.get (.record 0) = none) ∧ (after (.deadlineExpiry 0) s).seq.state = .amber ∧
    (after (.deadlineExpiry 0) s).seq.demands.get (.record 0) = some 3000 := by decide +kernel

theorem test_grace_marks_speed_unknown :
    let s := withTrain train quiet
    (train.graceOn = true ∧ train.strikeIn = some 800 ∧ train.predicted = none ∧ train.speedUnknown = false) ∧
    ((after (.predictionGraceExpiry 0) s).trk.recs[0]).bind (·.deadline) = some ⟨1050, true⟩ ∧
    (after (.predictionGraceExpiry 0) { s with trk := (withTrain { train with speedUnknown := true } quiet).trk }).seq.state
      = .opened := by decide +kernel

/-- A computation for the train, 4,000 m at 100 ms over 400 dm. -/
def computing : State :=
  { withTrain train quiet with
    pred := { quiet.pred with unit := some ⟨⟨0, 1, 1, 4000, 400, 1000, 800⟩, 900⟩, queue := [⟨1, 0, 0, 200, 400, 1, 0⟩] } }

theorem test_computation_gives_prediction :
    (computing.pred.unit.isSome = true) ∧
    ((after .computationComplete computing).trk.recs[0]).bind (·.predicted) = some 600800 ∧
    ((after .computationComplete computing).trk.recs[0]).bind (·.deadline) = some ⟨568800, false⟩ ∧
    (after .computationComplete computing).pred.unit.map (·.req.slot) = some 1 := by decide +kernel

theorem test_stale_result_changes_no_record :
    let s := { computing with trk := (withTrain { train with seq := 2 } quiet).trk }
    (after .computationComplete s).trk.recs = s.trk.recs := by decide +kernel

theorem test_computation_starts :
    let s := { quiet with pred := { quiet.pred with queue := [⟨1, 0, 0, 200, 400, 1, 0⟩] } }
    s.pred.unit = none ∧ (after .computationStart s).pred.unit = some ⟨⟨1, 0, 0, 200, 400, 1, 0⟩, 1000⟩ := by decide +kernel

/-! ## The closing sequence -/

theorem test_amber_expires :
    let s := withSeq (fun q => { q with amberDue := some 4000, demands := shut.seq.demands }) (inState .amber quiet)
    (s.seq.state = .amber ∧ s.seq.amberDue = some 4000 ∧ s.seq.flasher = none) ∧
    (after .amberExpiry s).seq.state = .redWarn ∧ (after .amberExpiry s).seq.redWarnDue = some 9000 := by decide +kernel

/-- RED_WARN with the reds flashing and every drive at RAISE. -/
def warning : State :=
  withSeq (fun q => { q with
    redWarnDue := some 9000, demands := shut.seq.demands, lamps := shut.seq.lamps, flasher := some ⟨false, 18000⟩ })
    (inState .redWarn quiet)

theorem test_red_warn_expires :
    ((∀ b : Boom, (warning.seq.drives[b]).target = .raise ∧ (warning.seq.drives[b]).output ≠ .lower) ∧
      (∀ i ∈ reds, warning.seq.lamps[i] = .flash)) ∧
    (after .redWarnExpiry warning).seq.state = .entryLower ∧
    (after .redWarnExpiry warning).seq.drives[0] = ⟨.hold, .lower, some 9500⟩ ∧
    (after .redWarnExpiry (withPrv (fun p => { p with contacts := contactsAt false }) warning)).seq.state = .clearance := by
  decide +kernel

theorem test_entry_limit :
    let s := withSeq (fun q => { q with entryDue := some 9000 }) (inState .startClose shut)
    let e := withSeq (fun q => { q with entryDue := some 9000 }) (inState .entryLower warning)
    (s.seq.state = .startClose ∧ s.seq.demands.isEmpty = false ∧ e.prv.position 0 ≠ .down) ∧
    (after .entryTravelLimitExpiry s).seq.state = .closed ∧ (after .entryTravelLimitExpiry e).seq.state = .clearance ∧
    (after .entryTravelLimitExpiry e).prv.booms[0] = some .notDownAtLimit := by decide +kernel

theorem test_clearance_settles_or_is_obstructed :
    let s := withSeq (fun q => { q with settleDue := some 9000, clearLimitDue := some 9500 }) (inState .clearance warning)
    (s.seq.state = .clearance ∧ s.prv.position 1 ≠ .down) ∧ (after .clearanceSettleExpiry s).seq.state = .exitLower ∧
    (after .clearanceLimitExpiry s).flt.mode = .failed := by decide +kernel

theorem test_exit_limit_closes :
    let s := withSeq (fun q => { q with exitDue := some 9000 }) (inState .exitLower shut)
    (s.seq.exitDue = some 9000 ∧ s.seq.demands.isEmpty = false) ∧ (after .exitTravelLimitExpiry s).seq.state = .closed ∧
    (after .exitTravelLimitExpiry s).seq.minClosedDue = some 14000 := by decide +kernel

theorem test_min_closed_opens_without_demand :
    let s := withSeq (fun q => { q with minClosedDue := some 9000, demands := DemandSet.empty }) shut
    (s.seq.demands.isEmpty = true ∧ s.trk.liveRecs = [] ∧ s.prv.position 0 ≠ .up) ∧
    (after .minClosedExpiry s).seq.state = .raising ∧
    (after .minClosedExpiry (withSeq (fun q => { q with minClosedDue := some 9000 }) shut)).seq.state = .closed := by
  decide +kernel

theorem test_raise_and_test_limits :
    let s := withSeq (fun q => { q with raiseDue := some 9000 }) (inState .raising { shut with seq := quiet.seq })
    let t := withSeq (fun q => { q with testDue := #v[some 9000, none, none, none] }) testing
    (s.prv.position 0 ≠ .up ∧ s.seq.raiseDue = some 9000 ∧ t.seq.testDue[0] = some 9000) ∧
    (after .raiseTravelLimitExpiry s).prv.booms[0] = some .notUpAtLimit ∧
    (after (.testTravelLimitExpiry 0) t).prv.booms[0] = none := by decide +kernel

theorem test_pause_ends_and_flasher_alternates :
    let s := withSeq (fun q => { q with drives := put q.drives 2 ⟨.hold, .lower, some 1500⟩ }) shut
    ((s.seq.drives[2]).pauseDue = some 1500 ∧ s.seq.flasher = some ⟨false, 2600⟩) ∧
    (after (.reversalPauseExpiry 2) s).seq.drives[2] = ⟨.lower, .lower, none⟩ ∧
    (after .flashPhaseExpiry s).seq.flasher = some ⟨true, 3600⟩ ∧ (after .flashPhaseExpiry s).now = 1300 := by decide +kernel

/-- 06_proving_and_fault_points.md, "An exit boom sticks": the events of the limit and of the boom's late settling. -/
theorem test_exit_boom_sticks :
    let p := { shut.prv with contacts := put shut.prv.contacts 10 ⟨true, false, some 9400⟩ }
    let s := { withSeq (fun q => { q with exitDue := some 8000 }) (inState .exitLower shut) with prv := p }
    let t := after .exitTravelLimitExpiry s
    let u := after (.contactSettleExpiry 10) { t with bus := quiet.bus }
    (s.flt.mode = modeOf s.seq s.flt ∧ s.prv.position 3 = .travel ∧ s.seq.demands.isEmpty = false) ∧
    evs t = [.faultRaised (boomPoint 3) .healthy .faulty 1 (some (.boom .notDownAtLimit)), .mode .normal .failed,
      .crossingState .exitLower .closed 8000 false] ∧
    evs u = [.faultCleared (boomPoint 3) .faulty .clearedUnacked 1, .mode .failed .normal,
      .crossingState .closed .closed 9400 true] := by decide +kernel

/-- A limit whose event goes on to RAISING: its points are all taken, and the mode is derived once, at the end (log 12). -/
theorem test_limit_that_opens_derives_the_mode_once :
    let p := { shut.prv with contacts := put (put shut.prv.contacts 9 closedContact) 10 openContact }
    let s := { withSeq (fun q => { q with exitDue := some 8000, demands := DemandSet.empty }) (inState .exitLower shut) with
      prv := p, settings := { shut.settings with timers := { shut.settings.timers with minClosed := 0 } } }
    s.prv.position 3 = .up ∧ evs (after .exitTravelLimitExpiry s) =
      [.faultRaised (boomPoint 3) .healthy .faulty 1 (some (.boom .notDownAtLimit)),
        .crossingState .exitLower .closed 8000 false, .crossingState .closed .raising 8000 false,
        .faultCleared (boomPoint 3) .faulty .clearedUnacked 1] := by decide +kernel

def clearing : State :=
  withSeq (fun q => { q with settleDue := some 9000, clearLimitDue := some 9500 }) (inState .clearance shut)

/-- Through EXIT_LOWER to CLOSED in one event, with the exit booms DOWN already (R86). -/
theorem test_clearance_to_closed_in_one_event :
    let t := after .clearanceSettleExpiry clearing
    let u := after (.waiveClearance []) clearing
    (clearing.prv.position 1 = .down ∧ clearing.prv.position 3 = .down ∧ clearing.seq.demands.isEmpty = false) ∧
    evs t = [.crossingState .clearance .exitLower 9000 false, .crossingState .exitLower .closed 9000 true] ∧
    t.seq.state = .closed ∧ t.seq.exitDue = none ∧ t.seq.minClosedDue = some 14000 ∧
    u.seq.state = .closed ∧ u.seq.minClosedDue = some 6000 := by decide +kernel

/-- The judgement of an entry travel limit stands ahead of both its changes of state. -/
theorem test_entry_limits_stage_faults_first :
    let up := withPrv (fun p => { p with contacts := put (put p.contacts 0 closedContact) 1 openContact })
    let s := withSeq (fun q => { q with entryDue := some 9000 }) (inState .startClose (up shut))
    let e := withSeq (fun q => { q with entryDue := some 9000 }) (inState .entryLower (up shut))
    let first := [EventBody.faultRaised (boomPoint 0) .healthy .faulty 1 (some (.boom .notDownAtLimit)), .mode .normal .failed]
    (s.prv.position 0 = .up ∧ s.prv.position 1 = .down ∧ s.flt.mode = .normal ∧ modeOf s.seq s.flt = .normal) ∧
    evs (after .entryTravelLimitExpiry s) = first ++ [.crossingState .startClose .closed 9000 false] ∧
    evs (after .entryTravelLimitExpiry e) = first ++ [.crossingState .entryLower .clearance 9000 false] := by decide +kernel

/-! ## Proving -/

theorem test_contact_timers :
    let m := withPrv (fun p => { p with masks := put p.masks 0 (some 1100) }) quiet
    ((m.prv.masks[0]).isSome = true) ∧ ((after (.contactInputChange 0 false) quiet).prv.contacts[0]).due = some 1100 ∧
    ((after (.contactInputChange 0 false) m).prv.contacts[0]).due = none ∧
    ((after (.boomMaskEnd 0) (after (.contactInputChange 0 false) m)).prv.contacts[0]).due = some 1200 := by decide +kernel

theorem test_boom_leaving_down_fails :
    let s := after (.contactInputChange 1 false) shut
    ((s.prv.contacts[1]).due = some 1100 ∧ s.prv.booms[0] = none ∧ s.prv.position 0 = .down) ∧
    (after (.contactSettleExpiry 1) s).prv.booms[0] = some .leftDown ∧
    (after (.contactSettleExpiry 1) s).seq.proven = false := by decide +kernel

theorem test_last_boom_down_ends_start_close :
    let p := { shut.prv with contacts := put shut.prv.contacts 1 ⟨true, false, some 1100⟩ }
    let s := { inState .startClose shut with prv := p }
    (s.seq.demands.isEmpty = false ∧ (1 : Fin 16) ∈ boomContacts 0) ∧
    (after (.contactSettleExpiry 1) s).seq.state = .closed := by decide +kernel

theorem test_battery_low_ends_maintenance :
    let s := after (.contactInputChange 15 true) testing
    (s.prv.contacts[15]).due = some 1100 ∧ (after (.contactSettleExpiry 15) s).seq.test = none := by decide +kernel

theorem test_lamp_checks :
    let s := withPrv (fun p => { p with lamps := put p.lamps 0 ⟨true, some 1200, false, none⟩ }) quiet
    let t := after (.lampCheckExpiry 0) s
    (((s.prv.lamps[0]).checkDue = some 1200 ∧ expectedLit s.seq 0 = false) ∧ (t.prv.lamps[0]).expired = true) ∧
    (t.prv.lamps[0]).fault = some .seenLit ∧ ((after (.lampSenseChange 0 false) t).prv.lamps[0]).fault = none ∧
    ((after (.lampSenseChange 0 false) s).prv.lamps[0]).fault = none := by decide +kernel

/-- A part whose contact is about to settle at a level. -/
def settling (i : Fin 16) (level : Bool) (s : State) : State :=
  withPrv (fun p => { p with contacts := upd p.contacts i fun c => { c with raw := level, due := some 1100 } }) s

theorem test_supply_and_detector_points :
    let mains := after (.contactSettleExpiry 14) (settling 14 false quiet)
    let detector := after (.contactSettleExpiry 13) (settling 13 false quiet)
    (mainsContact = 14 ∧ healthyContact = 13 ∧ clearContact = 12) ∧ mains.flt.present[fpMains] = true ∧
    quiet.flt.present[fpDetector] = false ∧ detector.flt.present[fpDetector] = true ∧ detector.prv.detector = .fault := by
  decide +kernel

theorem test_boom_conflicts_and_breaks :
    let conflict := after (.contactSettleExpiry 1) (settling 1 true quiet)
    let broken := after (.contactSettleExpiry 2) (settling 2 false quiet)
    let back := after (.contactSettleExpiry 2) (settling 2 true (after (.contactSettleExpiry 2) (settling 2 false quiet)))
    (conflict.prv.booms[0] = some .conflict ∧ conflict.prv.position 0 = .conflict ∧
      conflict.flt.present[boomPoint 0] = true) ∧
    (broken.prv.booms[0] = some .broken ∧ broken.prv.intact 0 = false ∧ broken.flt.present[boomPoint 0] = true) ∧
    back.prv.booms[0] = none ∧ back.flt.present[boomPoint 0] = false := by decide +kernel

theorem test_boom_positions_move_the_sequence :
    let down := fun i => settling i true (withPrv (fun p => { p with contacts := upd p.contacts i fun _ => openContact }) shut)
    let up := settling 0 true (withPrv (fun p => { p with contacts := upd p.contacts 0 fun _ => openContact })
      (inState .raising { shut with seq := quiet.seq, prv := quiet.prv }))
    ((1 : Fin 16) ∈ boomContacts 0 ∧ (4 : Fin 16) ∈ boomContacts 1) ∧
    (after (.contactSettleExpiry 1) (inState .entryLower (down 1))).seq.state = .clearance ∧
    (after (.contactSettleExpiry 4) (inState .exitLower (down 4))).seq.state = .closed ∧
    (after (.contactSettleExpiry 0) up).seq.state = .opened := by decide +kernel

/-- At a BATTERY_LOW exit the points are taken in their order, the booms' goings before FP29, and the mode is derived once
(R121, log 14). -/
theorem test_battery_exit_takes_points_in_order :
    let s := settling 15 true { testing with
      seq := { testing.seq with drives := put testing.seq.drives 0 ⟨.lower, .lower, none⟩ }
      prv := { testing.prv with booms := put testing.prv.booms 0 (some .notDownAtLimit) }
      flt := { testing.flt with
        present := put testing.flt.present 8 true
        table := put testing.flt.table 8 ⟨.faultyAcked, 1, some 500, some 500, none, false⟩ } }
    (evs (after (.contactSettleExpiry 15) s)).filter (fun e => match e with
      | .faultRaised _ _ _ _ _ | .faultCleared _ _ _ _ | .mode _ _ => true
      | _ => false) =
      [.faultCleared 8 .faultyAcked .healthy 1, .faultRaised 29 .healthy .faulty 1 none, .mode .maintenance .normal] := by
  decide +kernel

/-- R83: in CLEARANCE the settle timer starts when the detector shows CLEAR and stops when it does not. -/
theorem test_detector_runs_the_settle_timer :
    let away := after (.contactSettleExpiry 12) (settling 12 false clearing)
    let back := after (.contactSettleExpiry 12) (settling 12 true away)
    (clearing.prv.detector = .clear ∧ away.prv.detector = .obstructed) ∧
    away.seq.settleDue = none ∧ back.seq.settleDue = some 3100 := by decide +kernel

/-- The mains point with an entry, and the part as its contact is about to settle. -/
def mainsWith (e : FaultEntry) (present : Bool) (q : List Entry) (s : State) : State :=
  settling 14 present { s with
    flt := { s.flt with table := put s.flt.table fpMains e, present := put s.flt.present fpMains present }, queue := q }

def mainsAfter (s : State) : FaultEntry := (after (.contactSettleExpiry 14) s).flt.table[fpMains]

/-- Arisings: from HEALTHY and from CLEARED_UNACKED, at the count's end, and in maintenance (R113, R118). -/
theorem test_point_arises :
    mainsAfter (mainsWith ⟨.healthy, 4, some 500, some 600, none, false⟩ false [] quiet)
      = ⟨.faulty, 5, some 1100, some 1100, none, false⟩ ∧
    mainsAfter (mainsWith ⟨.clearedUnacked, 255, some 500, some 600, none, false⟩ false [] quiet)
      = ⟨.faulty, 255, some 500, some 1100, none, false⟩ ∧
    mainsAfter (mainsWith ⟨.healthy, 254, none, none, none, false⟩ false [] testing)
      = ⟨.faulty, 255, some 1100, some 1100, none, true⟩ ∧
    (after (.contactSettleExpiry 14) (mainsWith ⟨.healthy, 254, none, none, none, false⟩ false [] testing)).queue = [] := by
  decide +kernel

/-- Goings, and the report that updates the one in air in its place (R113, R124). -/
theorem test_point_goes_and_updates_its_report :
    let e : FaultEntry := ⟨.faulty, 1, some 500, some 500, none, false⟩
    let c := faultContent fpMains e
    let x : Entry := ⟨c, pointClass fpMains, some ⟨c, pointClass fpMains⟩, false⟩
    let t := after (.contactSettleExpiry 14) (mainsWith e true [x, startupReport 20] quiet)
    let e' : FaultEntry := ⟨.clearedUnacked, 1, some 500, some 1100, none, false⟩
    t.flt.table[fpMains] = e' ∧
    t.queue.take 2 = [{ x with content := faultContent fpMains e', changed := true }, startupReport 20] ∧
    evs t = [.faultCleared fpMains .faulty .clearedUnacked 1] ∧
    (mainsAfter (mainsWith { e with state := .faultyAcked } true [] quiet)).state = .healthy := by decide +kernel

/-- A boom's and a lamp's entries take their causes, and a battery that ends maintenance is reported with its flag cleared. -/
theorem test_points_take_causes_and_lose_flags :
    let boom := after (.contactSettleExpiry 2) (settling 2 false quiet)
    let lamp := after (.lampCheckExpiry 0)
      (withPrv (fun p => { p with lamps := put p.lamps 0 ⟨true, some 1200, false, none⟩ }) quiet)
    let battery := after (.contactSettleExpiry 15) (settling 15 true testing)
    (boom.flt.table[boomPoint 0]).cause = some (.boom .broken) ∧
    boom.queue.filter (Entry.ofPoint (boomPoint 0)) =
      [⟨faultContent (boomPoint 0) boom.flt.table[boomPoint 0], .urgent, none, false⟩] ∧
    (lamp.flt.table[lampPoint 0]).cause = some (.lamp .seenLit) ∧ LeftMaintenance (settling 15 true testing) battery ∧
    (battery.flt.table[fpBattery]).inMaint = false ∧ (battery.queue.filter (Entry.ofPoint fpBattery)).length = 1 := by
  unfold LeftMaintenance; decide +kernel

/-! ## The signaller link -/

/-- The link receiving a frame, with the characters received after its lead. -/
def receiving (cs : List Byte) : State := withLink (fun l => { l with rx := some cs, pauseDue := some 1500 }) quiet

theorem test_lead_begins_frame :
    (quiet.link.rx = none ∧ quiet.link.brk = none ∧ quiet.settings.address = 1) ∧
    (after (.linkCharacter 1 true false) quiet).link.rx = some [] ∧ after (.linkCharacter 2 true false) quiet = quiet :=
  ⟨by decide, by decide +kernel, rfl⟩

theorem test_frame_is_cut :
    ((after (.linkCharacter 0 false true) (receiving [1])).link.rx = none) ∧
    ((after (.linkCharacter 1 true false) (receiving [1])).link.rx = some []) ∧
    ((after (.linkCharacter 61 false false) (receiving [1])).link.rx = none) ∧
    ((after (.linkCharacter 60 false false) (receiving [1])).link.rx = some [1, 60]) := by decide +kernel

/-- A whole POLL, its check characters last. -/
theorem test_last_character_ends_frame :
    let c := check16 [1, 1, 2]
    ((receiving [1, 1, 2, loByte c]).link.rx = some ((1 : Byte) :: byte 1 :: [2] ++ [loByte c])) ∧
    (after (.linkCharacter (hiByte c) false false) (receiving [1, 1, 2, loByte c])).link.lastWhole = some 1000 ∧
    (after (.linkCharacter (hiByte c + 1) false false) (receiving [1, 1, 2, loByte c])).link.lastWhole = none := by
  decide +kernel

theorem test_pause_and_break_cut :
    (after .pauseExpiry (receiving [1])).link.rx = none ∧ (after .pauseExpiry (receiving [1])).now = 1500 ∧
    (after (.linkBreak 990) (receiving [1])).link = { quiet.link with brk := some ⟨990, false⟩ } ∧
    (after .linkBreakEnd (after (.linkBreak 990) quiet)).link.brk = none := by decide +kernel

def sentEntry : Entry := ⟨.host 1 [2] 0 900, .info, some ⟨.host 1 [2] 0 900, .info⟩, false⟩

theorem test_long_break_resyncs :
    let s := { withLink (fun l => { l with brk := some ⟨900, false⟩, toggle := true, buffered := some [1] }) quiet with
      queue := [sentEntry] }
    (s.link.brk = some ⟨900, false⟩) ∧ (after .longBreak s).link.toggle = false ∧
    (after .longBreak s).queue = [{ sentEntry with sent := none }] ∧ (after .longBreak s).now = 1900 ∧
    evs (after .longBreak s) = [.linkCut .longBreak none 0 (Vector.replicate 4 false)] := by decide +kernel

theorem test_link_timeout :
    let s := withLink (fun l => { l with timerDue := some 9000 }) quiet
    (s.link.lost = false ∧ s.link.timerDue = some 9000 ∧ (s.flt.table[30]).state = .healthy) ∧
    (after .linkTimeout s).link.lost = true ∧ ((after .linkTimeout s).flt.table[30]).state = .faulty := by decide +kernel

theorem test_transmitter :
    let s := withLink (fun l => { l with sending := some ⟨[1], 3⟩, buffered := some [2] }) quiet
    (after .transmitFrameDone s).link.sending = some ⟨[2], 3⟩ ∧ (after .transmitFrameDone s).link.buffered = none := by
  decide +kernel

theorem test_poll_acknowledges :
    let s := { quiet with queue := [sentEntry] }
    (s.link.lost = false ∧ (s.queue.filter fun e => e.sent.isSome).length ≤ 1 ∧ s.flt.mode = modeOf s.seq s.flt) ∧
    (after (.poll [2]) s).queue = [] ∧ (after (.poll [2]) s).link.toggle = true ∧ (after (.poll [3]) s).queue = s.queue := by
  decide +kernel

theorem test_poll_chooses_highest_class :
    let e : Entry := ⟨.crossing .opened .normal false 0 900, .urgent, none, false⟩
    let s := { quiet with queue := [{ sentEntry with sent := none }, e] }
    IsChosen s.queue e ∧ (after (.poll [0]) s).queue.map (·.sent.isSome) = [false, true] :=
  ⟨⟨[{ sentEntry with sent := none }], [], rfl, by decide, by decide⟩, by decide +kernel⟩

def faulty (x : FaultState) : State :=
  { quiet with flt := { quiet.flt with table := put quiet.flt.table 28 ⟨x, 1, some 500, some 500, none, false⟩ } }

theorem test_signaller_acknowledges :
    (((faulty .faulty).flt.table[28]).state = .faulty ∧ (faulty .faulty).flt.mode = modeOf quiet.seq (faulty .faulty).flt) ∧
    ((after (.signallerAckFault [28]) (faulty .faulty)).flt.table[28]).state = .faultyAcked ∧
    ((after (.ackAll []) (faulty .clearedUnacked)).flt.table[28]).state = .healthy ∧
    (after (.signallerAckFault [30]) quiet).link.sending.map (·.frame.getD 4 0) = some 3 := by decide +kernel

theorem test_restore_section :
    let s := { quiet with secs := ⟨put quiet.secs.table 1 ⟨.disturbed, 0, false, some .negative⟩, none⟩ }
    ((s.secs.table[1]).state = .disturbed ∧ ∀ h ∈ boundingHeads 1, (s.line.recs[h]).state = .active) ∧
    ((after (.restoreSection [2]) s).secs.table[1]).state = .restoring ∧
    ((after (.restoreSection [1]) s).secs.table[0]).state = .clear := by decide +kernel

theorem test_signaller_hold_closes_road :
    (quiet.seq.state = .opened ∧ quiet.seq.demands.signallerHold = none) ∧
    (after (.signallerHoldClosed []) quiet).seq.state = .amber ∧
    (after (.signallerReleaseHold []) shut).seq.state = .raising ∧
    (after (.releaseLocal []) shut).seq.demands = shut.seq.demands := by decide +kernel

theorem test_waive_and_permit :
    let s := withSeq (fun q => { q with clearLimitDue := some 9500 }) (inState .clearance warning)
    (s.prv.position 1 ≠ .down) ∧ (after (.waiveClearance []) s).seq.state = .exitLower ∧
    (after (.waiveClearance []) quiet).seq.state = .opened ∧ (after (.permitMaint []) quiet).seq.permission = true ∧
    (after (.withdrawPermit []) testing).seq.test = none := by decide +kernel

theorem test_set_warning_group :
    (quiet.settings.timers.sequenceMinimum = 26000) ∧
    ((after (.setWarningGroup 0 1 260 100) quiet).pred.table[1]) = ⟨200, 26000, 10000⟩ ∧
    ((after (.setWarningGroup 0 1 259 100) quiet).pred.table[1]) = ⟨200, 32000, 60000⟩ ∧
    after (.setWarningGroup 0 4 260 100) quiet = quiet ∧
    ((after (.setWarning (List.replicate 6 0)) quiet).link.sending.map (·.frame.getD 4 0)) = some 4 := by
  refine ⟨by decide, by decide +kernel, by decide +kernel, by decide +kernel, by decide +kernel⟩

theorem test_status_and_refused_frames :
    (statusSummary quiet).length = 47 ∧ (isSignallerKind 0x0D = false) ∧
    ((after (.status []) quiet).link.sending.map (·.frame.length)) = some 55 ∧
    ((after (.frameRefusedKind 0x0D []) quiet).link.sending.map (·.frame.getD 4 0)) = some 1 ∧
    ((after (.ackAll [0]) quiet).link.sending.map (·.frame.getD 4 0)) = some 2 := by decide +kernel

theorem test_characters_fill_positions :
    let good : List Byte := [0x0B, 6, 0, 4, 1, 100, 0]
    after (.linkCharacter 0x0B false false) (receiving []) = (receiving []).afterFill [] 0x0B ∧
    after (.linkCharacter 60 false false) (receiving [1]) = (receiving [1]).afterFill [1] 60 ∧
    (after (.linkCharacter 0x97 false false) (receiving good)).link.groups[0] = true ∧
    ((after (.linkCharacter 0x97 false false) (receiving good)).pred.table[0]).warning = 26000 ∧
    after (.linkCharacter 0x98 false false) (receiving good) = (receiving good).afterFill good 0x98 := by
  refine ⟨rfl, rfl, ?_, ?_, rfl⟩ <;> decide +kernel

theorem test_whole_frame_returns_the_link :
    let s := { withLink (fun l => { l with lost := true, lostAt := some 700 }) quiet with
      flt := { quiet.flt with
        present := put quiet.flt.present fpLink true
        table := put quiet.flt.table fpLink ⟨.faulty, 1, some 700, some 700, none, false⟩ } }
    let t := after (frameRow kindStatus []) s
    t.link.lost = false ∧ t.flt.present[fpLink] = false ∧ (t.flt.table[fpLink]).state = .healthy ∧
    (evs t).take 2 = [.linkReturn (some 700), .faultCleared fpLink .faulty .healthy 1] := by decide +kernel

theorem test_acknowledging_poll_replies :
    let next : Entry := { sentEntry with sent := none, content := .host 2 [3] 1 900 }
    let t := after (.poll [2]) { quiet with queue := [sentEntry, next] }
    let again := after (.poll [2]) { quiet with queue := [{ sentEntry with changed := true }] }
    IsChosen [next] next ∧
    (t.link.sending.map (·.frame)) = some (linkFrame 1 kindReport (reportBody true ⟨next.content, .info⟩)) ∧
    t.queue.map (·.sent.isSome) = [true] ∧ again.queue.map (·.sent.isSome) = [true] ∧
    (after (.poll [2]) { quiet with queue := [sentEntry] }).link.sending.map (·.frame.getD 1 0) = some kindIdle := by
  refine ⟨⟨[], [], rfl, by decide, by decide⟩, ?_⟩
  decide +kernel

theorem test_frames_that_do_not_fit_are_refused :
    (¬ LengthFits kindPoll 0 ∧ ¬ LengthFits kindPoll 2 ∧ ¬ LengthFits kindSetWarning 30 ∧ ¬ LengthFits kindStatus 1) ∧
    (∀ x ∈ [(kindPoll, ([] : List Byte)), (kindPoll, [0, 0]), (kindAckFault, []), (kindAckFault, [32]),
        (kindRestoreSection, []),
        (kindRestoreSection, [0]), (kindRestoreSection, [7]), (kindSetWarning, List.replicate 30 0)],
      (after (frameRow x.1 x.2) quiet).link.sending.map (fun y => (y.frame.getD 3 0, y.frame.getD 4 0)) = some (x.1, 2)) ∧
    evs (after (frameRow kindAckFault [32]) quiet) =
      [.linkCmd kindAckFault (some 32) .refusedArg (Vector.replicate 4 false)] :=
  ⟨⟨by simp [LengthFits, kindPoll], by simp [LengthFits, kindPoll], by simp [LengthFits, kindSetWarning],
    by simp [LengthFits, kindStatus]⟩, by decide +kernel, by decide +kernel⟩

/-! ## The host -/

theorem test_image_reads :
    (HostReady quiet ∧ windowAt quiet.bus.windows (0x10000 : Addr).toNat = some ⟨.image, 0x100, 4⟩) ∧
    (after (.snapshot 0x10000 true) { quiet with img := ⟨65535, none⟩ }).bus.answer = some (.complete 1) ∧
    (after (.hostRead 0x103FE true) quiet).bus.answer = some (.complete 0) :=
  ⟨⟨⟨rfl, by decide, rfl⟩, by decide⟩, by decide +kernel, by decide +kernel⟩

theorem test_accesses_passed_or_refused :
    (windowAt quiet.bus.windows (0x103FF : Addr).toNat = some ⟨.image, 0x100, 4⟩ ∧
      windowAt quiet.bus.windows (0x0FFFF : Addr).toNat = none ∧ windowAt quiet.bus.windows (0x13000 : Addr).toNat
        = some ⟨.guarded, 0x130, 1⟩) ∧
    (after (.hostRead 0x0FFFE true) quiet).bus.port.isSome = true ∧
    (after (.hostWrite 0x0FFFF true 1) quiet).bus.answer = some .fault ∧
    (after (.hostWrite 0x13000 true 1) quiet).bus.answer = some .fault ∧
    (after (.hostWrite 0x13000 true 1) testing).bus.port.isSome = true ∧
    (after (.hostWrite 0x10000 true 1) quiet).bus.answer = some .fault ∧
    (after (.hostRead 0 true) (inState .starting quiet)).bus.up.map (·.phase) = some .held := by decide +kernel

theorem test_index_writes :
    let s := withBus (fun b => { b with ring := { b.ring with producer := 3, consumer := 1 } }) quiet
    (windowAt s.bus.windows (0x11002 : Addr).toNat = some ⟨.eventRing, 0x110, 1⟩ ∧
      windowAt s.bus.windows (0x12000 : Addr).toNat = some ⟨.outbox, 0x120, 1⟩) ∧
    (after (.ringConsumerWrite 0x11002 3) s).bus.answer = none ∧
    (after (.ringConsumerWrite 0x11002 4) s).bus.answer = some .fault ∧
    (after (.outboxProducerWrite 0x12000 6) s).bus.answer = none ∧
    (after (.outboxProducerWrite 0x12000 7) s).bus.answer = some .fault := by decide +kernel

theorem test_completion_answers :
    let s := after (.hostWrite 0x10402 true 5) quiet
    (s.bus.up.map (·.phase) = some .granted ∧ s.bus.port.map (·.who) = some .upstream) ∧
    ((after (.upstreamAccessComplete 0) s).cmd[0]).argA = 5 ∧
    (after (.upstreamAccessComplete 0) s).bus.answer = some (.complete 0) := by decide +kernel

theorem test_consumer_write_completes :
    let s := after (.ringConsumerWrite 0x11002 3)
      (withBus (fun b => { b with ring := { b.ring with producer := 3, consumer := 1 } }) quiet)
    (after (.upstreamAccessComplete 0) s).bus.ring.consumer = 3 := by decide +kernel

theorem test_due_claim_goes_first :
    let m : MemAccess := ⟨0, false, 2, []⟩
    let s := withBus (fun b => { b with
      up := some ⟨readAccess 0 true, .waiting, .none⟩, loaderClaim := some ⟨m, 4⟩, outboxClaim := some ⟨m, 3⟩ }) quiet
    (after .portGrant s).bus.port.map (·.who) = some .loader ∧
    (after .portGrant (withBus (fun b => { b with loaderClaim := none }) s)).bus.port.map (·.who) = some .upstream ∧
    (after .portGrant (withBus (fun b => { b with loaderClaim := none, up := none }) s)).bus.port.map (·.who)
      = some .outbox := by decide +kernel

theorem test_host_holds :
    (after (.holdClosed trig 9) quiet).seq.state = .amber ∧ ((after (.holdClosed trig 9) quiet).cmd[0]).result = .accepted ∧
    ((after (.holdClosed trig 9) testing).cmd[0]).result = .wrongState ∧
    ((after (.releaseHold trig 9) quiet).cmd[0]).tag = 9 := by decide +kernel

theorem test_at_trigger : AtTrigger quiet trig 0 := ⟨⟨.command, 0x104, 1⟩, by decide, rfl, by decide⟩

theorem test_halt_restart :
    let r := { train with status := .stopped }
    let s := args 1 0 (withTrain r quiet)
    (isHalt r.approachSide = true ∧ s.trk.order .t1 = [] ++ 0 :: [] ∧ (s.cmd[0]).argA = 1) ∧
    ((after (.haltRestart trig 0) s).trk.recs[0]).map (·.restartReq) = some true ∧
    ((after (.haltRestart trig 0) (args 2 0 s)).cmd[0]).result = .wrongState ∧
    ((after (.haltRestart trig 0) (args 3 0 s)).cmd[0]).result = .badArg := by decide +kernel

theorem test_host_acknowledges_what_it_has_seen :
    let s := args 28 0 { faulty .faulty with img := ⟨1, some (imageBytes (faulty .faulty))⟩ }
    ((s.cmd[0]).argA.toNat = (28 : Point).val ∧ (s.flt.table[28]).state = .faulty) ∧
    ((after (.ackFault trig 0) s).flt.table[28]).state = .faultyAcked ∧
    ((after (.ackFault trig 0) { s with img := ⟨1, none⟩ }).cmd[0]).result = .notSeen ∧
    ((after (.ackFault trig 0) (args 30 0 s)).cmd[0]).result = .wrongState ∧
    ((after (.ackFault trig 0) (args 32 0 s)).cmd[0]).result = .badArg := by decide +kernel

theorem test_maintenance_entered_and_left :
    let s := withSeq (fun q => { q with permission := true }) quiet
    (s.seq.permission = true ∧ s.prv.settled batteryContact = false) ∧ (after (.enterMaint trig 0) s).flt.mode = .maintenance ∧
    ((after (.enterMaint trig 0) quiet).cmd[0]).result = .notPermitted ∧
    ((after (.enterMaint trig 0) shut).cmd[0]).result = .wrongState ∧ (after (.leaveMaint trig 0) testing).seq.test = none ∧
    ((after (.leaveMaint trig 0) quiet).cmd[0]).result = .wrongState := by decide +kernel

theorem test_test_outputs :
    testing.seq.state = .test ∧ (after (.testOutput trig 0) (args 1 2 testing)).seq.lamps[1] = .flash ∧
    (after (.testOutput trig 0) (args 7 1 testing)).seq.audible[1] = true ∧
    (after (.testOutput trig 0) (args 11 1 testing)).seq.testDue[3] = some 9000 ∧
    ((after (.testOutput trig 0) (args 12 0 testing)).cmd[0]).result = .badArg ∧
    ((after (.testOutput trig 0) (args 0 2 testing)).cmd[0]).result = .badArg ∧
    ((after (.testOutput trig 0) (args 0 1 quiet)).cmd[0]).result = .wrongState := by decide +kernel

theorem test_reload :
    testing.ldr.load = none ∧ (after (.reloadSettings trig 0) testing).ldr.load = some ⟨.reload, [], false⟩ ∧
    ((after (.reloadSettings trig 0) quiet).cmd[0]).result = .wrongState ∧
    ((after (.reloadSettings trig 0) { testing with ldr := { testing.ldr with load := some ⟨.retry, [], false⟩ } }).cmd[0]).result
      = .busy := by decide +kernel

theorem test_command_window_writes :
    (after (.hostWrite 0x10401 false 1) quiet).bus.answer = some .fault ∧
    (after (.hostWrite 0x10402 true 1) quiet).bus.up.map (·.effect) = some (.argument 0 false none) ∧
    (after (.hostWrite 0x10405 false 1) quiet).bus.up.map (·.effect) = some (.argument 0 true (some true)) ∧
    (after (.hostWrite 0x10406 true 1) quiet).bus.up.map (·.effect) = some .none ∧
    evs (after (.hostWrite 0x10401 false 1) quiet) = [.writeDenied 0x10401 false (some .command) 1 .byte] := by decide +kernel

theorem test_triggers_by_kind :
    (AtTrigger quiet trig 0 ∧ ((0 : Byte).toNat = 0) ∧ 8 < (9 : Byte).toNat) ∧
    after (.hostWrite trig true 0x0900) quiet = quiet.afterRefusal 0 0 9 .badKind ∧
    after (.hostWrite trig true 0x0709) quiet = quiet.afterRefusal 0 9 7 .badKind ∧
    (after (.hostWrite trig true 0x0701) quiet).seq.state = .amber :=
  ⟨⟨⟨⟨.command, 0x104, 1⟩, by decide, rfl, by decide⟩, rfl, by decide⟩, by decide +kernel, by decide +kernel,
    by decide +kernel⟩

theorem test_index_window_writes :
    let cause := fun addr word => (evs (after (.hostWrite addr word 0) quiet)).map fun e =>
      match e with | .writeDenied _ _ _ _ c => some c | _ => none
    cause 0x11002 false = [some .byte] ∧ cause 0x11000 true = [some .readOnly] ∧ cause 0x11004 true = [some .readOnly] ∧
    cause 0x12003 false = [some .byte] ∧ cause 0x12002 true = [some .readOnly] ∧
    (after (.hostWrite 0x12004 false 0) quiet).bus.port.isSome = true ∧
    (after (.hostWrite 0x11002 true 0) quiet).bus.port.isSome = true := by decide +kernel

theorem test_byte_of_an_argument :
    let s := fun addr v => after (.upstreamAccessComplete 0) (after (.hostWrite addr false v) (args 0x1122 0x3344 quiet))
    ((s 0x10402 0x55).cmd[0]).argA = 0x1155 ∧ ((s 0x10403 0x55).cmd[0]).argA = 0x5522 ∧
    ((s 0x10405 0x55).cmd[0]).argB = 0x5544 := by decide +kernel

theorem test_loads_claim_their_first_word :
    let first : MemAccess := ⟨0xFFE00, false, 2, []⟩
    let due := { busy .ring quiet with ldr := { quiet.ldr with retryDue := some 9000 } }
    let inFlight := { due with ldr := { due.ldr with load := some ⟨.retry, [], false⟩ } }
    ((after (.reloadSettings trig 0) (busy .ring testing)).bus.loaderClaim.map (·.acc)) = some first ∧
    ((after .retryExpiry due).bus.loaderClaim.map (·.acc)) = some first ∧
    ((after .retryExpiry { due with bus := quiet.bus }).bus.port) = some ⟨.loader, first⟩ ∧
    (inFlight.ldr.load.isSome = true) ∧ after .retryExpiry inFlight = inFlight := by
  refine ⟨?_, ?_, ?_, rfl, rfl⟩ <;> decide +kernel

/-! ## The event ring, the outbox and the setting block -/

/-- The ring writer, idle, with one event staged and space in the ring. -/
def staged : State := withBus (fun b => { b with ring := { b.ring with staging := [⟨900, .startup⟩] } }) quiet

theorem test_ring_writes :
    let a := after .ringWriteStart staged
    let b := after .ringRecordWriteComplete a
    let c := after .ringProducerWriteComplete b
    (windowOf staged.bus.windows .eventRing = some ⟨.eventRing, 0x110, 1⟩ ∧ a.bus.port.map (·.who) = some .ring) ∧
    a.bus.ring.state = .record ∧ b.bus.ring.state = .index ∧ b.bus.port.map (·.acc) = some ⟨0x11000, true, 2, [1, 0]⟩ ∧
    c.bus.ring = ⟨[], 0, 1, 0, .idle, 0, false⟩ := by decide +kernel

theorem test_ring_header_writes :
    let s := fun n : Nat => withBus (fun b => { b with
      ring := { b.ring with state := .header, header := n }, port := some ⟨.ring, ⟨0, true, 2, []⟩⟩ }) quiet
    (after .ringHeaderWriteComplete (s 0)).bus.ring.header = 1 ∧ (after .ringHeaderWriteComplete (s 2)).bus.ring.state = .idle ∧
    (after .ringHeaderWriteComplete (withBus (fun b => { b with ring := { b.ring with discard := true } }) (s 1))).bus.ring.header
      = 0 := by decide +kernel

/-- The Outbox Reader, idle, with one record outstanding. -/
def outstanding : State := withBus (fun b => { b with outbox := ⟨0, 1, .idle, false⟩ }) quiet

theorem test_outbox_fetches_and_takes :
    let a := after .outboxFetchStart outstanding
    let b := after (.outboxFetchComplete ([1, 1, 7, 0, 0x41] ++ List.replicate 27 0)) a
    let c := after .outboxConsumerWriteComplete b
    (windowOf outstanding.bus.windows .outbox = some ⟨.outbox, 0x120, 1⟩ ∧ a.bus.port.map (·.who) = some .outbox) ∧
    a.bus.outbox.state = .fetching ∧ b.queue = [⟨.host 7 [0x41] 0 1000, .alert, none, false⟩] ∧
    b.bus.outbox = ⟨1, 1, .writing, false⟩ ∧ c.bus.outbox.state = .idle ∧
    (after (.outboxFetchComplete ([3, 1] ++ List.replicate 30 0)) a).queue = [] := by decide +kernel

theorem test_staging_joins_drops_and_marks_gaps :
    let b := fun (n missed : Nat) => { quiet.bus with ring := { quiet.bus.ring with
      staging := List.replicate n ⟨900, .startup⟩, missed := missed } }
    let r := fun n missed => let x := ((b n missed).stage 1000 .hostReset).ring; (x.staging.length, x.missed)
    r 31 0 = (32, 0) ∧ r 32 0 = (32, 1) ∧ r 30 5 = (32, 0) ∧ r 31 5 = (31, 6) ∧ r 32 65535 = (32, 65535) ∧
    ((b 30 5).stage 1000 .hostReset).ring.staging.drop 30 = [⟨1000, .gap 5 1000⟩, ⟨1000, .hostReset⟩] := by decide +kernel

theorem test_ring_headers_claim_in_turn :
    let s := fun n d => withBus (fun b => { b with
      ring := { b.ring with state := .header, header := n, discard := d }, port := some ⟨.ring, ⟨0, true, 2, []⟩⟩ }) quiet
    portHas (after .ringHeaderWriteComplete (s 0 false)) .ring ⟨0x11002, true, 2, [0, 0]⟩ = true ∧
    portHas (after .ringHeaderWriteComplete (s 1 false)) .ring ⟨0x11000, true, 2, [0, 0]⟩ = true ∧
    portHas (after .ringProducerWriteComplete (s 1 true)) .ring ⟨0x11004, true, 2, [15, 0]⟩ = true := by decide +kernel

theorem test_producer_write_claims_the_next_record :
    let s := withBus (fun b => { b with
      ring := { b.ring with staging := [⟨900, .startup⟩, ⟨901, .hostReset⟩], state := .index }
      port := some ⟨.ring, ⟨0x11000, true, 2, [1, 0]⟩⟩ }) quiet
    let t := after .ringProducerWriteComplete s
    (s.bus.ring.discard = false ∧ s.bus.ringClaim = none) ∧ t.bus.ring.staging = [⟨901, .hostReset⟩] ∧
    t.bus.ring.state = .record ∧ portHas t .ring ⟨0x11020, true, 16, Event.record ⟨901, .hostReset⟩⟩ = true := by
  decide +kernel

theorem test_outbox_records_of_boundary_lengths :
    let fetching := after .outboxFetchStart outstanding
    let t := fun (cls len : Byte) => after (.outboxFetchComplete ([cls, len, 7, 0] ++ List.replicate 28 0x41)) fetching
    (t 1 1).queue.length = 1 ∧ (t 2 24).queue.length = 1 ∧ (t 1 0).queue = [] ∧ (t 1 25).queue = [] ∧
    evs (t 1 0) = [.outboxBad 0 7 true] ∧ evs (t 2 25) = [.outboxBad 0 7 true] ∧ evs (t 3 24) = [.outboxBad 0 7 false] ∧
    portHas (t 1 1) .outbox ⟨0x12002, true, 2, [1, 0]⟩ = true ∧
    (t 3 0).bus.outboxClaim.map (·.acc) = some ⟨0x12002, true, 2, [1, 0]⟩ := by
  decide +kernel

/-- OUTBOX_BAD's details are the reference and the reason, without the ring index that its subject holds; the reason of
SETTINGS_INVALID is coded from 0 (log 15). -/
theorem test_event_details :
    EventBody.details (.outboxBad 3 0x0102 true) = [2, 1, 1] ∧ EventBody.details (.settingsInvalid .marker) = [0] := by decide

/-- A load whose next word comes from the port. -/
def loading (k : LoadKind) (ws : List Word) : State :=
  { withBus (fun b => { b with port := some ⟨.loader, ⟨0, false, 2, []⟩⟩ }) quiet with
    ldr := { quiet.ldr with load := some ⟨k, ws, false⟩ } }

theorem test_words_read_in_order :
    (WholeLoad [0x4C8A, 1] → False) ∧
    (after (.settingWordReadComplete 1) (loading .retry [0x4C8A])).bus.port.map (·.acc.addr) = some 0xFFE04 ∧
    (after (.loadCompletion 1) (loading .retry [0x4C8A])).ldr.load.map (·.words) = some [0x4C8A, 1] :=
  ⟨fun h => absurd h.1 (by decide), by decide +kernel, by decide +kernel⟩

theorem test_bad_marker_ends_load :
    WholeLoad [0, 0, 0] ∧ (after (.loadCompletion 0) (loading .first [0, 0])).ldr.lastBad = some .marker ∧
    (after (.loadCompletion 0) (loading .first [0, 0])).ldr.retryDue = some 11000 ∧
    (after (.loadCompletion 0) (loading .retry [0, 0])).ldr.load = none := by
  refine ⟨⟨by decide, Or.inl (by decide)⟩, by decide +kernel, by decide +kernel, by decide +kernel⟩

/-- The words of a valid block of 80 bytes: the built-in values and four windows. -/
def blockWords : List Word :=
  [0x4C8A, 1, 80, 0x0301, 10000, 400, 4000, 0xD4C0, 1, 15000, 3000, 5000, 8000, 8000, 10000, 2000, 20000, 5000, 1000] ++
  ([0, 1, 2, 3].flatMap fun _ => [200, 320, 600]) ++ [0x0401, 0x100, 0x0102, 0x104, 0x0103, 0x110, 0x0184, 0x120]

def blockCheck : Word := check16 (blockWords.flatMap wordBytes)

set_option maxRecDepth 100000 in
theorem test_valid_block_is_applied :
    (WholeLoad (blockWords ++ [blockCheck]) ∧ (judgeBlock (blockWords ++ [blockCheck])).toOption.isSome = true) ∧
    (after (.loadCompletion blockCheck) (loading .reload blockWords)).bus.windows.length = 4 ∧
    (after (.loadCompletion blockCheck) (loading .reload blockWords)).settings.rate = 3 :=
  ⟨⟨⟨by decide, Or.inr (by decide)⟩, by decide +kernel⟩, by decide +kernel, by decide +kernel⟩

theorem test_retry_begins :
    let s := { quiet with ldr := { quiet.ldr with retryDue := some 9000 } }
    (s.ldr.retryDue = some 9000 ∧ s.ldr.load = none) ∧ (after .retryExpiry s).ldr.load = some ⟨.retry, [], false⟩ ∧
    (after .retryExpiry s).now = 9000 := by decide +kernel

set_option maxRecDepth 100000 in
theorem test_blocks_are_judged_in_order :
    let judged := fun ws => match judgeBlock ws with | .ok _ => none | .error r => some r
    let sealed := fun ws => ws ++ [check16 (ws.flatMap wordBytes)]
    judged (sealed blockWords) = none ∧ judged [0, 2, 3] = some .marker ∧ judged [0x4C8A, 2, 3] = some .version ∧
    judged [0x4C8A, 1, 62] = some .length ∧ judged (blockWords ++ [blockCheck + 1]) = some .check ∧
    judged (sealed (blockWords.set 4 2999)) = some .range ∧ judged (sealed (blockWords.set 37 0x104)) = some .windows ∧
    judged (sealed (blockWords.set 20 259)) = some .warning := by decide +kernel

set_option maxRecDepth 100000 in
theorem test_apply_restarts_changed_windows_alone :
    let t := after (.loadCompletion blockCheck) (loading .reload blockWords)
    let s := withBus (fun b => { b with windows := windows.dropLast.map fun w => { w with base := w.base + 1 } })
      (loading .reload blockWords)
    let u := after (.loadCompletion blockCheck) s
    t.bus.ring.state = .record ∧ t.bus.outbox = quiet.bus.outbox ∧ evs t = [.settingsLoaded .reload] ∧
    (u.bus.ring.state = .header ∧ u.bus.outbox.state = .writing ∧ portHas u .ring ⟨0x11004, true, 2, [15, 0]⟩ = true) := by
  decide +kernel

set_option maxRecDepth 100000 in
theorem test_rate_change_cuts_a_frame :
    let s := { loading .reload blockWords with
      settings := { quiet.settings with rate := 2 }, link := { quiet.link with rx := some [1], pauseDue := some 1400 } }
    let t := after (.loadCompletion blockCheck) s
    t.link.rx = none ∧ evs t = [.settingsLoaded .reload, .linkCut .rate (some 1) 2 (Vector.replicate 4 false)] := by
  decide +kernel

set_option maxRecDepth 100000 in
theorem test_overtaken_reload_is_discarded :
    let s := { loading .reload blockWords with ldr := { quiet.ldr with load := some ⟨.reload, blockWords, true⟩ } }
    let t := after (.loadCompletion blockCheck) s
    evs t = [.reloadDiscarded] ∧ t.settings = s.settings ∧ t.bus.windows = s.bus.windows ∧ t.ldr.valid = 1 := by decide +kernel

theorem test_discarded_outbox_accesses :
    let s := fun x => withBus (fun b => { b with outbox := ⟨0, 0, x, true⟩, port := some ⟨.outbox, ⟨0, false, 32, []⟩⟩ }) quiet
    let t := after (.outboxFetchComplete ([1, 1, 7, 0] ++ List.replicate 28 0x41)) (s .writing)
    let u := after .outboxConsumerWriteComplete (s .writing)
    t.bus.outbox = ⟨0, 0, .writing, false⟩ ∧ t.queue = [] ∧ portHas t .outbox ⟨0x12002, true, 2, [0, 0]⟩ = true ∧
    u.bus.outbox = ⟨0, 0, .writing, false⟩ ∧ portHas u .outbox ⟨0x12002, true, 2, [0, 0]⟩ = true := by decide +kernel

/-- The first load about to end, as STARTING leaves the part: no window in force and an access held. -/
def held (a : HostAccess) (ws : List Word) (s : State) : State :=
  withBus (fun b => { b with windows := [], up := some ⟨a, .held, .none⟩ }) { loading .first ws with
    seq := { s.seq with state := .starting, proven := false }, prv := s.prv }

/-- After the first load ends with a valid block. -/
def heldOut (a : HostAccess) : State := after (.loadCompletion blockCheck) (held a blockWords shut)

theorem test_starting_is_untouched (a : HostAccess) : StartingUntouched (held a blockWords shut) := by
  have zeroArgs : ∀ i : Slot, (quiet.cmd[i]).argA = 0 ∧ (quiet.cmd[i]).argB = 0 := by decide
  exact fun _ => ⟨rfl, rfl, fun u h => by cases h; rfl, rfl, zeroArgs, rfl⟩

theorem test_first_load_with_every_boom_down :
    let s := held ⟨0, false, true, 0⟩ [0, 0] shut
    let t := after (.loadCompletion 0) s
    (∀ b : Boom, s.prv.position b = .down) ∧ s.seq.demands.isEmpty = false ∧
    t.seq.state = .closed ∧ t.seq.minClosedDue = some 6000 ∧
    (after (.loadCompletion 0) (held ⟨0, false, true, 0⟩ [0, 0] quiet)).seq.state = .startClose := by decide +kernel

set_option maxRecDepth 100000 in
theorem test_held_write_is_decided :
    (heldOut ⟨0x0FFFF, true, true, 1⟩).bus.answer = some .fault ∧ (heldOut ⟨0x10000, true, true, 1⟩).bus.answer = some .fault ∧
    (heldOut ⟨0x13000, true, true, 1⟩).bus.up.map (·.phase) = some .granted ∧
    (heldOut ⟨0x10402, true, true, 7⟩).bus.up.isSome = true ∧
    ((heldOut ⟨0x10400, true, true, 0x0901⟩).cmd[0]).result = .accepted ∧
    (heldOut ⟨0x10400, true, true, 0x0901⟩).seq.demands.localHold = some 1000 := by decide +kernel

set_option maxRecDepth 100000 in
theorem test_held_read_is_decided :
    let image := heldOut ⟨0x10000, false, true, 0⟩
    (heldOut ⟨0, false, true, 0⟩).bus.up.map (·.phase) = some .granted ∧
    image.bus.answer = some (.complete 1) ∧ image.img.serial = 1 ∧ image.bus.up = none := by decide +kernel

set_option maxRecDepth 100000 in
/-- In the snapshot that a held read takes, the Setting Loader, whose last read has completed, shows no claim, no access is
held, and the claims of the ring and the outbox, whose windows have come into force, wait (R163, R168, log 54). -/
theorem test_snapshot_of_a_held_read :
    ((heldOut ⟨0x10000, false, true, 0⟩).img.snapshot.map fun l => (l.drop 0x3F4).take 8) = some [0, 1, 0, 0, 0, 1, 0, 0] := by
  decide +kernel

/-- A WRITE_DENIED outside windows has region FFh and offset FFFFh (log 15). -/
theorem test_denied_outside_windows :
    let e := evs (after (.hostWrite 0x0FFFF true 1) quiet)
    e.map EventBody.details = [EventBody.details (.writeDenied 0x0FFFF true none 0 .alignment)] ∧
    regionBytes none 0 = [0xFF, 0xFF, 0xFF] := by
  decide +kernel

/-! ## Invariants -/

/-- The hypotheses of the invariants, in a state that is not the state of reset. -/
theorem test_invariants_hold_in_a_running_state :
    ClockOk quiet ∧ StagingOk quiet ∧ RequestsOk quiet ∧ WindowsOk quiet ∧ OpenUndemanded quiet ∧ PausesHeld quiet ∧
    HeadsServe quiet ∧ SettingsOk quiet := by
  refine ⟨by unfold ClockOk; decide, by unfold StagingOk; decide, by unfold RequestsOk; decide, Or.inr (by decide),
    fun _ => by decide, by unfold PausesHeld; decide, by unfold HeadsServe; decide, by unfold SettingsOk; decide⟩

theorem test_settled_state : Settled shut ∧ step shut = .next { shut with now := 1001 } :=
  ⟨⟨by decide, by decide, fun k => by cases k <;> decide,
    fun i r h => by
      have none_at : ∀ i : Slot, shut.trk.recs[i] = none := by decide
      rw [none_at i] at h; cases h⟩, rfl⟩

theorem test_counts_agree_with_a_train : CountsAgree (withTrain train quiet) := by
  have recs : ∀ i : Slot, (withTrain train quiet).trk.recs[i] = if i = 0 then some train else none := by decide
  refine ⟨fun k => ⟨by cases k <;> decide, fun i => ?_⟩, by decide, by decide, by decide, by decide, by decide⟩
  rw [recs i]
  by_cases h : i = 0
  · subst h; cases k <;> simp [withTrain, train, Tracker.order]
  · cases k <;> simp [withTrain, Tracker.order, h]

theorem test_reports_fit : ReportsFit { quiet with queue := [sentEntry, startupReport 20] } :=
  ⟨by decide, by decide, by decide, by decide, by decide, by decide⟩

theorem test_starting_kept_by_the_end_of_reset :
    StartingUntouched State.reset ∧ StartingUntouched (after .partResetEnd State.reset) :=
  ⟨fun _ => ⟨rfl, rfl, fun u h => (by cases h), rfl, by decide, rfl⟩,
    fun _ => ⟨rfl, rfl, fun u h => (by cases h), rfl, by decide, rfl⟩⟩

theorem test_heads_reported : HeadsReported quiet ∧ HeadsReported (after .outcomeTake (offeringIn .missing 2 0 none)) := by
  unfold HeadsReported; decide +kernel

end Sys2Proof.Tests
end

section
/-! PROOFS. The head line (01_the_head_line.md): slots, the reply window and reply characters. -/

namespace Sys2Proof.Machine

/-! ## Commands of a running part, and time -/

theorem State.whenRunning_of_running (s : State) (k : State → State) (h : s.running = true) : s.whenRunning k = k s := by
  simp [State.whenRunning, h]

/-- An expiry before the end of the run is taken at its time, or at once when that has passed. -/
theorem State.onExpiry_of_lt (s : State) (d : Time) (k : State → State) (h : d < Config.runEnd) :
    s.onExpiry (some d) k = k { s with now := max s.now d } := by
  simp [State.onExpiry, h]

/-- Work on the head line alone changes nothing else. -/
theorem sameOutside_modLine (s : State) (f : HeadLine → HeadLine) : SameOutside [.line] s (s.modLine f) := by
  intro p hp
  cases p <;> simp_all [Part.same]

/-- Work on the head line at another time changes nothing but the time and the head line. -/
theorem sameOutside_now_modLine (s : State) (n : Time) (f : HeadLine → HeadLine) :
    SameOutside [.now, .line] s ({ s with now := n }.modLine f) := by
  intro p hp
  cases p <;> simp_all [Part.same]

/-! ## The end of a transaction -/

@[simp] theorem HeadLine.offer_fields (l : HeadLine) (x : TxnOutcome) (g : Option GoodReply) :
    (l.offer x g).phase = .idle ∧ (l.offer x g).recs = l.recs ∧ (l.offer x g).offered = some (offerOf l x g) :=
  ⟨rfl, rfl, rfl⟩

/-! ## Slots and the reply window -/

theorem pollFrame_layout (h : Head) (k : TxnKind) :
    (pollFrame h k).length = 3 ∧ (pollFrame h k).getD 0 0 = byte (h.val + 1) ∧
    (pollFrame h k).getD 1 0 = (if k = .clearHalf then 1 else 0) ∧ (pollFrame h k).foldl (· + ·) 0 = 0 := by
  cases k <;> refine ⟨rfl, rfl, rfl, ?_⟩ <;> revert h <;> decide

@[simp] theorem HeadLine.beginSlot_fields (l : HeadLine) (h : Head) (now : Time) :
    (l.beginSlot h now).phase = .poll ∧ (l.beginSlot h now).head = h ∧ (l.beginSlot h now).slotStart = now ∧
    (l.beginSlot h now).recs = l.recs ∧ (l.beginSlot h now).offered = l.offered ∧
    (l.beginSlot h now).pollFrame = Machine.pollFrame h (l.beginSlot h now).kind :=
  ⟨rfl, rfl, rfl, rfl, rfl, rfl⟩

/-- A slot sends CLEAR_HALF exactly when the head's pending flag is set (R2). -/
theorem HeadLine.beginSlot_kind (l : HeadLine) (h : Head) (now : Time) :
    (l.beginSlot h now).kind = .clearHalf ↔ (l.recs[h]).clearPending = true := by
  simp only [HeadLine.beginSlot]
  split <;> simp_all

theorem execSlotStart_of_idle (s : State) (runs : s.running = true) (idle : s.line.phase = .idle)
    (taken : s.line.offered = none) (due : s.line.slotStart + 12 < Config.runEnd) :
    exec .slotStart s = .next ({ s with now := max s.now (s.line.slotStart + 12) }.modLine fun l =>
      l.beginSlot (s.line.head + 1) (max s.now (s.line.slotStart + 12))) := by
  simp only [exec, execSlotStart, State.whenRunning_of_running _ _ runs, idle, taken, Config.slotLength,
    State.onExpiry_of_lt _ _ _ due, and_self, if_true, State.modLine]

theorem execReplyWindowOpen_of_poll (s : State) (brk : Bool) (runs : s.running = true) (poll : s.line.phase = .poll)
    (due : s.line.slotStart + 2 < Config.runEnd) :
    exec (.replyWindowOpen brk) s = .next ({ s with now := max s.now (s.line.slotStart + 2) }.modLine fun l =>
      if brk then l.offer .broken none else { l with phase := .window }) := by
  simp only [exec, execReplyWindowOpen, State.whenRunning_of_running _ _ runs, poll, Config.pollEnd,
    State.onExpiry_of_lt _ _ _ due, if_true]

theorem execReplyWindowClose_of_window (s : State) (runs : s.running = true) (window : s.line.phase = .window)
    (due : s.line.slotStart + 10 < Config.runEnd) :
    exec .replyWindowClose s = .next ({ s with now := max s.now (s.line.slotStart + 10) }.modLine fun l =>
      l.offer (if l.chars = [] then .silent else .garbled) none) := by
  simp only [exec, execReplyWindowClose, State.whenRunning_of_running _ _ runs, window, Config.windowEnd,
    State.onExpiry_of_lt _ _ _ due, if_true, List.isEmpty_iff]

theorem execHeadLineBreak_of_window (s : State) (runs : s.running = true) (window : s.line.phase = .window) :
    exec .headLineBreak s = .next (s.modLine fun l => l.offer .broken none) := by
  simp only [exec, execHeadLineBreak, State.whenRunning_of_running _ _ runs, State.modLine, window, if_true]

/-- Outside the window neither its close nor a break does anything (R5). -/
theorem exec_outside_window (s : State) (runs : s.running = true) (closed : s.line.phase ≠ .window) :
    exec .headLineBreak s = .next s ∧ exec .replyWindowClose s = .next s := by
  simp only [exec, execHeadLineBreak, execReplyWindowClose, State.whenRunning_of_running _ _ runs, State.modLine, closed,
    if_false, and_self]

/-- Settles O8: each command of a slot is its work on the head line at its expiry time. -/
theorem slotsPollAndWindowsEndTransactions : Obligations.SlotsPollAndWindowsEndTransactions := by
  refine ⟨fun s runs idle taken due => ?_, fun s runs due => ⟨fun brk poll => ?_, fun window => ⟨?_, ?_⟩, ?_⟩⟩
  · obtain ⟨length, number, command, check⟩ := pollFrame_layout (s.line.head + 1)
      (s.line.beginSlot (s.line.head + 1) (max s.now (s.line.slotStart + 12))).kind
    exact ⟨_, execSlotStart_of_idle s runs idle taken due, sameOutside_now_modLine _ _ _, rfl, rfl, rfl, rfl, rfl, taken,
      HeadLine.beginSlot_kind _ _ _, length, number, command, check⟩
  · refine ⟨_, execReplyWindowOpen_of_poll s brk runs poll (Nat.lt_of_le_of_lt (Nat.add_le_add_left (by decide) _) due), rfl, ?_⟩
    cases brk <;> simp [State.modLine]
  · exact ⟨_, execReplyWindowClose_of_window s runs window due, rfl, rfl, rfl, rfl⟩
  · exact ⟨_, execHeadLineBreak_of_window s runs window, rfl, rfl, rfl, rfl⟩
  · exact exec_outside_window s runs

/-! ## Reply characters -/

theorem HeadLine.readReply_spec (l : HeadLine) (cs : List Byte) (now : Time) : replyOf l cs now (l.readReply cs now) := by
  refine ⟨rfl, rfl, rfl, rfl, rfl, ?_, rfl⟩
  cases h : l.kind <;> simp [HeadLine.readReply, h]

/-- Both rows of a reply character do the same work (log 6). -/
theorem exec_reply_character (s : State) (v : Byte) (framing noise : Bool) (c : Instr) (runs : s.running = true)
    (row : c = .headReplyComplete v framing noise ∨ c = .headReplyCharacter v framing noise) :
    exec c s = .next (s.modLine fun l => l.character v (framing || noise) s.now) := by
  obtain rfl | rfl := row <;>
    simp only [exec, execHeadReplyComplete, execHeadReplyCharacter, State.whenRunning_of_running _ _ runs]

theorem HeadLine.character_outside_window (l : HeadLine) (v : Byte) (bad : Bool) (now : Time) (closed : l.phase ≠ .window) :
    l.character v bad now = l := by
  cases h : l.phase <;> simp_all [HeadLine.character]

theorem HeadLine.character_before_last (l : HeadLine) (v : Byte) (bad : Bool) (now : Time) (window : l.phase = .window)
    (more : l.chars.length + 1 < 7) :
    l.character v bad now = { l with chars := l.chars ++ [v], charBad := l.charBad || bad } := by
  simp [HeadLine.character, window, Config.replyLength, more]

theorem HeadLine.character_last (l : HeadLine) (v : Byte) (bad : Bool) (now : Time) (window : l.phase = .window)
    (last : l.chars.length + 1 = 7) :
    l.character v bad now = l.decide (l.chars ++ [v]) (l.charBad || bad) now := by
  simp [HeadLine.character, window, Config.replyLength, last]

@[simp] theorem HeadLine.decide_frame (l : HeadLine) (cs : List Byte) (bad : Bool) (now : Time) :
    (l.decide cs bad now).phase = .idle ∧ (l.decide cs bad now).recs = l.recs := by
  simp only [HeadLine.decide]
  split
  · simp
  · split <;> simp

/-- R4's order: GARBLED by a bad character or check, then WRONG_HEAD by the head number, then GOOD. -/
theorem HeadLine.decide_offered (l : HeadLine) (cs : List Byte) (bad : Bool) (now : Time) :
    (l.decide cs bad now).offered =
      if bad = true ∨ cs.foldl (· + ·) 0 ≠ 0 then some (offerOf l .garbled none)
      else if cs.getD 0 0 ≠ byte (l.head.val + 1) then some (offerOf l .wrongHead none)
      else some (offerOf l .good (some (l.readReply cs now))) := by
  simp only [HeadLine.decide, Bool.or_eq_true, bne_iff_ne]
  split
  · rfl
  · split <;> rfl

/-- Settles O9: outside the window, before the seventh character, and at the seventh by R4's order. -/
theorem replyCharactersDecideOutcome : Obligations.ReplyCharactersDecideOutcome := by
  intro s v framing noise c runs row
  rw [exec_reply_character s v framing noise c runs row]
  refine ⟨fun closed => ?_, fun window more => ⟨_, rfl, sameOutside_modLine _ _, ?_⟩,
    fun window last => ⟨_, rfl, sameOutside_modLine _ _, ?_⟩⟩
  · simp only [State.modLine, HeadLine.character_outside_window _ _ _ _ closed]
  · simp only [State.modLine, HeadLine.character_before_last _ _ _ _ window more, window, Bool.or_assoc, and_self]
  · simp only [State.modLine, HeadLine.character_last _ _ _ _ window last]
    refine ⟨(HeadLine.decide_frame _ _ _ _).1, (HeadLine.decide_frame _ _ _ _).2, ?_⟩
    simp only [HeadLine.decide_offered, Bool.or_eq_true, or_assoc]
    by_cases garbled : s.line.charBad = true ∨ framing = true ∨ noise = true ∨ (s.line.chars ++ [v]).foldl (· + ·) 0 ≠ 0
    · simp only [if_pos garbled]
    · by_cases other : (s.line.chars ++ [v]).getD 0 0 ≠ byte (s.line.head.val + 1)
      · simp only [if_neg garbled, if_pos other]
      · simp only [if_neg garbled, if_neg other]
        exact ⟨_, rfl, HeadLine.readReply_spec _ _ _⟩

end Sys2Proof.Machine
end

section
/-! PROOFS. The take of an outcome (01_the_head_line.md, 02_section_counting.md): the head record, and the sections. -/

namespace Sys2Proof.Machine

/-! ## The outcome record -/

theorem OutcomeRec.plausible_iff (o : OutcomeRec) (g : GoodReply) :
    o.plausible g = true ↔ (g.ab - o.heldAB).toNat ≤ 64 ∧ (g.ba - o.heldBA).toNat ≤ 64 := by
  simp only [OutcomeRec.plausible, Bool.and_eq_true, decide_eq_true_eq]
  rfl

theorem OutcomeRec.judged_iff (o : OutcomeRec) (g : GoodReply) :
    o.judged g = true ↔ g.sensorFault = false ∧ (o.stateBefore = .active ∨ o.stateBefore = .missing) := by
  simp [OutcomeRec.judged]

theorem OutcomeRec.implausible_iff (o : OutcomeRec) :
    o.implausible = true ↔ ∃ g, o.reply = some g ∧ o.judged g = true ∧ o.plausible g = false := by
  cases h : o.reply <;> simp [OutcomeRec.implausible, h]

/-! ## The head record -/

theorem HeadRec.take_miss (r : HeadRec) (o : OutcomeRec) (p : Bool) (h : o.reply = none) : r.take o p = r.miss := by
  simp [HeadRec.take, h]

theorem HeadRec.take_good (r : HeadRec) (o : OutcomeRec) (p : Bool) (g : GoodReply) (h : o.reply = some g) :
    r.take o p = (r.good g p).keep g o.kind := by
  simp [HeadRec.take, h]

/-- What a non-GOOD outcome keeps (R9, R14). -/
theorem HeadRec.miss_kept (r : HeadRec) :
    r.miss.heldAB = r.heldAB ∧ r.miss.heldBA = r.heldBA ∧ r.miss.lastReply = r.lastReply ∧
    r.miss.lastHalf = r.lastHalf ∧ r.miss.clearPending = r.clearPending := by
  cases h : r.state <;> simp only [HeadRec.miss, h] <;> (try split) <;> simp [HeadRec.fail]

/-- What a GOOD outcome leaves to be kept from its reply (R14, R15). -/
theorem HeadRec.good_clearPending (r : HeadRec) (g : GoodReply) (p : Bool) :
    (r.good g p).clearPending = r.clearPending := by
  simp only [HeadRec.good, HeadRec.store, HeadRec.fail, HeadRec.prove]
  repeat' split
  all_goals rfl

/-- A SENSOR_FAULT fails the head from any state and keeps its counts (R12). -/
theorem HeadRec.good_sensorFault (r : HeadRec) (g : GoodReply) (p : Bool) (h : g.sensorFault = true) :
    (r.good g p).state = .failed ∧ (r.good g p).goodCount = 0 ∧ (r.state ≠ .failed → (r.good g p).failCount = 3) ∧
    (r.good g p).heldAB = r.heldAB ∧ (r.good g p).heldBA = r.heldBA := by
  by_cases failed : r.state = .failed <;> simp [HeadRec.good, HeadRec.fail, h, failed]

/-- The baseline of an UNKNOWN or SETTLING head (R10, R13). -/
theorem HeadRec.good_baseline (r : HeadRec) (g : GoodReply) (p : Bool) (ok : g.sensorFault = false)
    (h : r.state = .unknown ∨ r.state = .settling) : r.good g p = r.store g := by
  obtain h | h := h <;> simp [HeadRec.good, ok, h]

/-- The verdict on a reply of a head that serves (R11). -/
theorem HeadRec.good_serving (r : HeadRec) (g : GoodReply) (p : Bool) (ok : g.sensorFault = false)
    (h : r.state = .active ∨ r.state = .missing) : r.good g p = if p then r.store g else r.fail := by
  obtain h | h := h <;> simp [HeadRec.good, ok, h]

theorem HeadRec.good_failed (r : HeadRec) (g : GoodReply) (p : Bool) (ok : g.sensorFault = false)
    (h : r.state = .failed) : r.good g p = r.prove := by
  simp [HeadRec.good, ok, h]

/-! ## The shape of a take -/

/-- The head record that the take gives the outcome's head (R7). -/
def State.takenRec (s : State) (o : OutcomeRec) : HeadRec := (s.line.recs[o.head]).take o (!o.implausible)

/-- The take makes the outcome's head enter FAILED. -/
def State.headFails (s : State) (o : OutcomeRec) : Bool :=
  (s.takenRec o).state == .failed && (s.line.recs[o.head]).state != .failed

/-- The work of a take on head and sections, before the tracker closes it. -/
def State.takeWork (s : State) (o : OutcomeRec) : Ctx := ((Ctx.start s).takeHead o).takeSections o (s.headFails o)

/-- The state after the take of an outcome. -/
def State.afterTake (s : State) (o : OutcomeRec) : State := ((s.takeWork o).closeTracker s.trk).finish.s

@[simp] theorem Ctx.takeHead_line (c : Ctx) (o : OutcomeRec) :
    (c.takeHead o).s.line = { c.s.line with recs := put c.s.line.recs o.head (c.s.takenRec o), offered := none } := by
  simp only [Ctx.takeHead]
  repeat' split
  all_goals simp [State.takenRec]

theorem execOutcomeTake_of_ready (s : State) (o : OutcomeRec) (ready : TakeReady s o) :
    exec .outcomeTake s = .next (s.afterTake o) := by
  obtain ⟨runs, offered, free⟩ := ready
  simp [-Fin.getElem_fin, exec, execOutcomeTake, State.whenRunning_of_running _ _ runs, offered, free, State.event, State.afterTake,
    State.takeWork, State.headFails]

theorem State.afterTake_line (s : State) (o : OutcomeRec) :
    (s.afterTake o).line = { s.line with recs := put s.line.recs o.head (s.takenRec o), offered := none } := by
  simp [State.afterTake, State.takeWork]

@[simp] theorem State.afterTake_offered (s : State) (o : OutcomeRec) : (s.afterTake o).line.offered = none := by rw [State.afterTake_line]

@[simp] theorem State.afterTake_head (s : State) (o : OutcomeRec) : (s.afterTake o).line.recs[o.head] = s.takenRec o := by
  rw [State.afterTake_line, put_same]

theorem State.afterTake_otherHead (s : State) (o : OutcomeRec) (h : Head) (other : h ≠ o.head) :
    (s.afterTake o).line.recs[h] = s.line.recs[h] := by
  rw [State.afterTake_line, put_other _ _ _ _ other]

@[simp] theorem State.afterTake_secs (s : State) (o : OutcomeRec) : (s.afterTake o).secs = (s.takeWork o).s.secs := by
  simp [State.afterTake]

/-- Settles O10: the head record of a take is that of a miss. -/
theorem takeOfMiss : Obligations.TakeOfMiss := by
  intro s o ready missed
  refine ⟨_, execOutcomeTake_of_ready s o ready, State.afterTake_offered s o, State.afterTake_otherHead s o, ?_⟩
  obtain ⟨heldAB, heldBA, lastReply, lastHalf, clearPending⟩ := HeadRec.miss_kept s.line.recs[o.head]
  simp only [State.afterTake_head, State.takenRec, HeadRec.take_miss _ _ _ missed]
  generalize s.line.recs[o.head] = r at *
  refine ⟨heldAB, heldBA, lastReply, lastHalf, clearPending, ?_, ?_, ?_, ?_, ?_⟩
  · rintro (state | state) few <;> simp [HeadRec.miss, state, few]
  · rintro (state | state) many <;> simp [HeadRec.miss, HeadRec.fail, state, many]
  all_goals intro state; simp [HeadRec.miss, HeadRec.fail, state]

/-- Settles O12: the head record of a take is that of a GOOD reply, by the state of the head. -/
theorem takeOfGoodReply : Obligations.TakeOfGoodReply := by
  intro s o g ready replied ok before
  refine ⟨_, execOutcomeTake_of_ready s o ready, State.afterTake_offered s o, State.afterTake_otherHead s o, ?_⟩
  have verdict : (s.line.recs[o.head]).state = .active ∨ (s.line.recs[o.head]).state = .missing →
      (!o.implausible) = o.plausible g := fun serves => by
    have judged : o.judged g = true := (o.judged_iff g).mpr ⟨ok, before ▸ serves⟩
    simp [OutcomeRec.implausible, replied, judged]
  simp only [State.afterTake_head, State.takenRec, HeadRec.take_good _ _ _ _ replied, ← OutcomeRec.plausible_iff]
  generalize s.line.recs[o.head] = r at *
  refine ⟨rfl, rfl, ?_, fun state => ?_, fun state plausible => ?_, fun state implausible => ?_, fun state few => ?_,
    fun state many => ?_⟩
  · cases h : o.kind <;> simp [HeadRec.keep, HeadRec.good_clearPending]
  · simp [HeadRec.good_baseline _ _ _ ok state, HeadRec.keep, HeadRec.store]
  · simp [HeadRec.good_serving _ _ _ ok state, verdict state, plausible, HeadRec.keep, HeadRec.store]
  · simp [HeadRec.good_serving _ _ _ ok state, verdict state, implausible, HeadRec.keep, HeadRec.fail]
  · simp [HeadRec.good_failed _ _ _ ok state, HeadRec.keep, HeadRec.prove, few, state]
  · simp [HeadRec.good_failed _ _ _ ok state, HeadRec.keep, HeadRec.prove, many]

end Sys2Proof.Machine
end

section
/-! PROOFS. What the work of one event stages, and which notices it gives: the operations of the closing sequence and of the
tracker only add events, and give no notice of a head's or a section's point. -/

namespace Sys2Proof.Machine

/-! ## Staged events -/

/-- The staging queue keeps what it holds in its order, has missed events only while it is full, and does not forget a
missed event while it is full (R175). -/
structure Bus.Grows (b b' : Bus) : Prop where
  kept : b.ring.staging <+: b'.ring.staging
  full : b.ring.missed = 0 ∨ 32 ≤ b.ring.staging.length → b'.ring.missed = 0 ∨ 32 ≤ b'.ring.staging.length
  missed : 32 ≤ b.ring.staging.length → 0 < b.ring.missed → 0 < b'.ring.missed

theorem Bus.Grows.refl (b : Bus) : b.Grows b := ⟨List.prefix_refl _, id, fun _ h => h⟩

theorem Bus.Grows.of_eq {b b' : Bus} (h : b' = b) : b.Grows b' := h ▸ Bus.Grows.refl b

theorem Bus.Grows.trans {a b c : Bus} (h : a.Grows b) (k : b.Grows c) : a.Grows c where
  kept := h.kept.trans k.kept
  full := fun x => k.full (h.full x)
  missed := fun x y => k.missed (Nat.le_trans x h.kept.length_le) (h.missed x y)

/-- R175's table: an event joins at the tail, alone or behind a GAP, or it is missed by a full queue. -/
theorem Ring.arrive_cases (r : Ring) (now : Time) (e : EventBody) :
    (∃ before, (r.arrive now e).staging = r.staging ++ before ++ [⟨now, e⟩] ∧ (r.arrive now e).missed = 0 ∧
      r.staging.length < 32) ∨
    ((r.arrive now e).staging = r.staging ∧ 0 < (r.arrive now e).missed ∧ (r.missed = 0 → 32 ≤ r.staging.length)) := by
  have capacity : Config.stagingCapacity = 32 := rfl
  simp only [Ring.arrive]
  split
  · split
    · exact Or.inl ⟨[], by simp, ‹_›, by omega⟩
    · exact Or.inr ⟨rfl, Nat.one_pos, by omega⟩
  · split
    · exact Or.inl ⟨[⟨now, .gap r.missed now⟩], by simp, rfl, by omega⟩
    · exact Or.inr ⟨rfl, by simp only; omega, by omega⟩

theorem Bus.grows_stage (b : Bus) (now : Time) (e : EventBody) : b.Grows (b.stage now e) := by
  obtain ⟨before, staging, missed, room⟩ | ⟨staging, missed, full⟩ := b.ring.arrive_cases now e
  · refine ⟨?_, ?_, ?_⟩ <;> simp only [Bus.stage_frame, staging, missed, List.append_assoc]
    · exact List.prefix_append _ _
    · exact fun _ => Or.inl trivial
    · omega
  · refine ⟨?_, ?_, ?_⟩ <;> simp only [Bus.stage_frame, staging]
    · exact List.prefix_refl _
    · exact fun h => Or.inr (h.elim full id)
    · exact fun _ _ => missed

/-- A staged event is there, or the queue is full and has missed one. -/
theorem Bus.stage_or_full (b : Bus) (now : Time) (e : EventBody) (h : b.ring.missed = 0 ∨ 32 ≤ b.ring.staging.length) :
    ⟨now, e⟩ ∈ (b.stage now e).ring.staging ∨
      (32 ≤ (b.stage now e).ring.staging.length ∧ 0 < (b.stage now e).ring.missed) := by
  obtain ⟨before, staging, missed, room⟩ | ⟨staging, missed, full⟩ := b.ring.arrive_cases now e
  · left; simp [staging]
  · right; simp only [Bus.stage_frame, staging]; exact ⟨h.elim full id, missed⟩

/-- An event that the work between two states stages is among those staged unless the queue is full. -/
theorem stagedOrFull_of_stage (s t : State) (b : Bus) (e : EventBody) (before : s.bus.Grows b)
    (after : (b.stage t.now e).Grows t.bus) : StagedOrFull s t e := by
  intro missed
  obtain there | ⟨full, lost⟩ := b.stage_or_full t.now e (before.full (Or.inl missed))
  · exact Or.inl (after.kept.subset there)
  · exact Or.inr ⟨Nat.le_trans full after.kept.length_le, after.missed full lost⟩

/-- The first event staged is the first of the new ones when there is room for it. -/
theorem staged_of_stage (s t : State) (e : EventBody) (after : (s.bus.stage t.now e).Grows t.bus) : Staged s t [e] := by
  intro missed room
  have room : s.bus.ring.staging.length < Config.stagingCapacity := room
  obtain ⟨more, h⟩ := after.kept
  exact ⟨more, by rw [← h, (s.bus.stage_of_room t.now e missed room).1]; rfl⟩

/-! ## Notices -/

/-- The point of a head or of a section, which the Section Counter alone gives notice of. -/
def HeadOrSec (p : Point) : Prop := 12 ≤ p.val ∧ p.val < 26

theorem headOrSec_headPoint (h : Head) : HeadOrSec (headPoint h) := by
  simp only [HeadOrSec, headPoint]; omega

theorem headOrSec_secPoint (i : Sec) : HeadOrSec (secPoint i) := by
  simp only [HeadOrSec, secPoint]; omega

theorem secPoint_injective : Function.Injective secPoint := by
  intro i j h
  simp only [secPoint, Fin.mk.injEq] at h
  exact Fin.ext (by omega)

theorem headPoint_injective : Function.Injective headPoint := by
  intro i j h
  simp only [headPoint, Fin.mk.injEq] at h
  exact Fin.ext (by omega)

theorem headPoint_ne_secPoint (h : Head) (i : Sec) : headPoint h ≠ secPoint i := by
  simp only [headPoint, secPoint, ne_eq, Fin.mk.injEq]; omega

/-- The notices of one point, in the order they came. -/
def Ctx.noticesOf (c : Ctx) (p : Point) : List Notice := c.notices.filter fun n => n.point == p

theorem Ctx.noticesOf_notice (c : Ctx) (p q : Point) (b : Bool) (x : Option Cause) :
    (c.notice q b x).noticesOf p = c.noticesOf p ++ if q = p then [⟨q, b, x⟩] else [] := by
  simp only [Ctx.noticesOf, Ctx.notice, List.filter_append]
  split <;> simp_all

/-! ## Work that leaves heads and sections alone -/

/-- The reports that wait for the close of the event are train reports. -/
def Ctx.TrainReports (c : Ctx) : Prop := ∀ x ∈ c.trains, x.origin = .train

/-- The events an operation adds are staged behind the earlier ones, the mode does not leave MAINTENANCE in it, and the
reports it leaves for the close of the event are train reports. -/
structure Ctx.Continues (c c' : Ctx) : Prop where
  bus : c.s.bus.Grows c'.s.bus
  leftMaint : c'.leftMaint = c.leftMaint
  trains : c.TrainReports → c'.TrainReports

/-- An operation that continues the event and gives no notice of a head's or a section's point. -/
structure Ctx.Calm (c c' : Ctx) : Prop extends Ctx.Continues c c' where
  notices : ∀ p, HeadOrSec p → c'.noticesOf p = c.noticesOf p

namespace Ctx

theorem Continues.refl (c : Ctx) : c.Continues c := ⟨.refl _, rfl, id⟩

theorem Continues.trans {a b c : Ctx} (h : a.Continues b) (k : b.Continues c) : a.Continues c :=
  ⟨h.bus.trans k.bus, k.leftMaint.trans h.leftMaint, fun x => k.trains (h.trains x)⟩

namespace Calm

theorem of_eq {c c' : Ctx} (bus : c'.s.bus = c.s.bus) (left : c'.leftMaint = c.leftMaint)
    (notices : c'.notices = c.notices) (trains : c'.trains = c.trains) : c.Calm c' :=
  ⟨⟨.of_eq bus, left, fun h => by simpa only [TrainReports, trains] using h⟩, fun p _ => by simp only [noticesOf, notices]⟩

theorem refl (c : Ctx) : c.Calm c := of_eq rfl rfl rfl rfl

theorem trans {a b c : Ctx} (h : a.Calm b) (k : b.Calm c) : a.Calm c :=
  ⟨h.toContinues.trans k.toContinues, fun p x => (k.notices p x).trans (h.notices p x)⟩

theorem ite {p : Prop} [Decidable p] {c a b : Ctx} (h : c.Calm a) (k : c.Calm b) : c.Calm (if p then a else b) := by
  split
  · exact h
  · exact k

theorem forEach_refl {α : Type} {f : Ctx → α → Ctx} (step : ∀ (c : Ctx) (a : α), c.Calm (f c a)) (l : List α) (c : Ctx) :
    c.Calm (c.forEach l f) := by
  induction l generalizing c with
  | nil => exact refl c
  | cons a l ih => exact (step c a).trans (ih (f c a))

/-! Each operation, done at the end of calm work, leaves it calm. -/

variable {c d : Ctx} (h : c.Calm d)
include h

theorem forEach {α : Type} {l : List α} {f : Ctx → α → Ctx} (step : ∀ (c : Ctx) (a : α), c.Calm (f c a)) :
    c.Calm (d.forEach l f) :=
  h.trans (forEach_refl step l d)

/-! ### The closing sequence -/

theorem modSeq {f : Sequence → Sequence} : c.Calm (d.modSeq f) := h.trans (of_eq rfl rfl rfl rfl)
theorem modPrv {f : Proving → Proving} : c.Calm (d.modPrv f) := h.trans (of_eq rfl rfl rfl rfl)
theorem modTrk {f : Tracker → Tracker} : c.Calm (d.modTrk f) := h.trans (of_eq rfl rfl rfl rfl)
theorem modSecs {f : Vector SecRec 6 → Vector SecRec 6} : c.Calm (d.modSecs f) := h.trans (of_eq rfl rfl rfl rfl)

theorem stage {e : EventBody} : c.Calm (d.stage e) :=
  h.trans ⟨⟨Bus.grows_stage _ _ _, rfl, id⟩, fun _ _ => rfl⟩

theorem notice {p : Point} {b : Bool} {x : Option Cause} (other : ¬ HeadOrSec p) : c.Calm (d.notice p b x) :=
  h.trans ⟨⟨.refl _, rfl, id⟩, fun q hq => by
    have : p ≠ q := fun same => other (same ▸ hq)
    rw [noticesOf_notice, if_neg this, List.append_nil]⟩

theorem boomGoTest {b : Boom} : c.Calm (d.boomGoTest b) :=
  ite (notice h.modPrv fun x => absurd x.1 (by simp only [boomPoint]; omega)) h

theorem setLamp {i : Lamp} {x : LampCmd} : c.Calm (d.setLamp i x) := ite h h.modSeq.modPrv

theorem startReds : c.Calm d.startReds := h.forEach fun c _ => (refl c).modPrv

theorem syncFlasher : c.Calm d.syncFlasher := by
  unfold Ctx.syncFlasher
  refine ite ?_ h.modSeq
  split
  · exact h
  · exact h.modSeq.startReds

theorem setRoad {x : Crossing} : c.Calm (d.setRoad x) := by
  unfold Ctx.setRoad
  exact syncFlasher (modSeq (forEach (setLamp (setLamp h)) fun c _ => setLamp (refl c)))

theorem handTarget {b : Boom} {t : Target} : c.Calm (d.handTarget b t) := by
  unfold Ctx.handTarget
  refine ite ?_ (boomGoTest ?_) <;> exact ite (modPrv (modSeq h)) (modSeq h)

theorem handAll {bs : List Boom} {t : Target} : c.Calm (d.handAll bs t) := h.forEach fun c _ => (refl c).handTarget

theorem changeTo {x : Crossing} : c.Calm (d.changeTo x) := by
  unfold Ctx.changeTo
  refine ite (notice ?_ fun x => absurd x.2 (by decide)) ?_ <;>
    exact ite (trans (stage (modSeq (modSeq h))) (of_eq rfl rfl rfl rfl)) (stage (modSeq (modSeq h)))

theorem enterAmber : c.Calm d.enterAmber := modSeq (setRoad (changeTo h))

theorem enterClearance : c.Calm d.enterClearance := modSeq (setRoad (changeTo h))

theorem entryDownTest : c.Calm d.entryDownTest := ite h.enterClearance h

theorem closeCore : c.Calm d.closeCore := by
  unfold Ctx.closeCore
  exact modSeq (handAll (setRoad (changeTo h)))

theorem interruptRaising : c.Calm d.interruptRaising := by
  unfold Ctx.interruptRaising
  exact ite (closeCore h)
    (entryDownTest (modSeq (forEach (handAll (setRoad (changeTo h))) fun c _ => modSeq (refl c))))

theorem enterOpen : c.Calm d.enterOpen := modSeq (setRoad (changeTo h))

theorem enterRaising : c.Calm d.enterRaising := by
  unfold Ctx.enterRaising
  refine ite (interruptRaising ?_) (ite (enterOpen ?_) ?_) <;> exact modSeq (handAll (setRoad (changeTo h)))

theorem openingCheck : c.Calm d.openingCheck := ite h.enterRaising h

theorem raise {k : DemandKey} : c.Calm (d.raise k) := by
  refine ite h ?_
  dsimp only
  split
  · exact enterAmber (stage (modSeq h))
  · exact interruptRaising (stage (modSeq h))
  · exact stage (modSeq h)

theorem withdraw {k : DemandKey} : c.Calm (d.withdraw k) := ite h (openingCheck (stage (modSeq h)))

theorem demand {k : DemandKey} {b : Bool} : c.Calm (d.demand k b) := ite h.raise h.withdraw

theorem takeExit : c.Calm d.takeExit := by
  unfold Ctx.takeExit
  split
  · exact h
  · refine enterRaising (modSeq (trans h ?_))
    exact of_eq rfl rfl rfl rfl

theorem exitNotice {x : ExitCause} : c.Calm (d.exitNotice x) := ite (trans (stage h) (of_eq rfl rfl rfl rfl)) h

/-! ### The tracker -/

theorem trainReport {x : Content} (train : x.origin = .train) : c.Calm (d.trainReport x) :=
  h.trans ⟨⟨.refl _, rfl, fun reports y hy => by
    obtain old | new := List.mem_append.mp hy
    · exact reports y old
    · exact List.mem_singleton.mp new ▸ train⟩, fun _ _ => rfl⟩

theorem settle {g : Gone} {i : Slot} : c.Calm (d.settle g i) := by
  unfold Ctx.settle
  split
  · exact h
  · refine ite ?_ (ite h (stage (modTrk h)))
    split
    · exact h.stage.trainReport rfl
    · exact h.stage

theorem reportGained {old : Tracker} {i : Slot} : c.Calm (d.reportGained old i) := by
  unfold Ctx.reportGained
  split
  · exact h
  · exact ite (h.trainReport rfl) h

/-- The train reports of an event in list order (R122). -/
theorem sortTrains {l : List Slot} :
    c.Calm { d with trains := l.flatMap fun i => d.trains.filter fun x => x.slotIs i } :=
  h.trans ⟨⟨.refl _, rfl, fun reports x hx => by
    obtain ⟨i, -, hi⟩ := List.mem_flatMap.mp hx
    exact reports x (List.mem_filter.mp hi).1⟩, fun _ _ => rfl⟩

theorem closeTracker {old : Tracker} : c.Calm (d.closeTracker old) := by
  have reported := (h.forEach (l := d.s.trk.listed) fun c i => (refl c).reportGained (old := old) (i := i))
  refine forEach (forEach (forEach ?_ fun c _ => (refl c).demand) fun c _ => (refl c).demand)
    fun c _ => ite (refl c).openingCheck (refl c)
  exact (modTrk (sortTrains reported)).trans (of_eq rfl rfl rfl rfl)

theorem setSection {i : Sec} {x : SecRec} {y : SecCause} : c.Calm (d.setSection i x y) :=
  ite (modSecs h) (ite (exitNotice (stage (modSecs h))) (stage (modSecs h)))

end Calm

end Ctx

end Sys2Proof.Machine
end

section
/-! PROOFS. What a disturbance and the close of the tracker do: the section's entry, its notice and its demand, and the
wheels that records hold in it. -/

namespace Sys2Proof.Machine

/-! ## Demands -/

theorem DemandSet.get_set (d : DemandSet) (k j : DemandKey) (t : Option Time) :
    (d.set k t).get j = if j = k then t else d.get j := by
  cases k <;> cases j <;> simp only [DemandSet.set, DemandSet.get, DemandKey.record.injEq, DemandKey.section_.injEq,
    reduceCtorEq, if_false, if_true]
  case record.record i j =>
    split
    · next same => rw [same, put_same]
    · next other => exact put_other _ _ _ _ other
  case section_.section_ i j =>
    split
    · next same => rw [same, put_same]
    · next other => exact put_other _ _ _ _ other

theorem Ctx.raise_demands (c : Ctx) (k : DemandKey) : (c.raise k).s.seq.demands =
    if (c.s.seq.demands.get k).isSome then c.s.seq.demands else c.s.seq.demands.set k (some c.s.now) := by
  simp only [Ctx.raise, Ctx.ite_seq, apply_ite Sequence.demands]
  congr 1
  split <;> simp

theorem Ctx.withdraw_demands (c : Ctx) (k : DemandKey) : (c.withdraw k).s.seq.demands =
    if (c.s.seq.demands.get k).isNone then c.s.seq.demands else c.s.seq.demands.set k none := by
  simp only [Ctx.withdraw, Ctx.ite_seq, apply_ite Sequence.demands]
  congr 1
  simp

/-- Asked for, a demand stands or not as asked, and every other demand stays. -/
theorem Ctx.demand_stands (c : Ctx) (k j : DemandKey) (b : Bool) :
    ((c.demand k b).s.seq.demands.get j).isSome = if j = k then b else (c.s.seq.demands.get j).isSome := by
  cases b with
  | true =>
    rw [Ctx.demand, if_pos rfl, Ctx.raise_demands]
    by_cases same : j = k
    · subst same
      split <;> simp_all [DemandSet.get_set]
    · split <;> simp [DemandSet.get_set, same]
  | false =>
    rw [Ctx.demand, if_neg Bool.false_ne_true, Ctx.withdraw_demands]
    by_cases same : j = k
    · subst same
      split <;> simp_all [DemandSet.get_set]
    · split <;> simp [DemandSet.get_set, same]

/-- With a demand asked for each section of a list, those demands stand, and every other section's demand stays. -/
theorem Ctx.forEach_demand_sections (l : List Sec) (c : Ctx) (i : Sec) :
    (((c.forEach (l.map fun j => (DemandKey.section_ j, true)) fun c d => c.demand d.1 d.2).s.seq.demands.get
      (.section_ i)).isSome = true) ↔ i ∈ l ∨ (c.s.seq.demands.get (.section_ i)).isSome = true := by
  induction l generalizing c with
  | nil => simp [Ctx.forEach]
  | cons j l ih =>
    refine (ih (c.demand (.section_ j) true)).trans ?_
    rw [Ctx.demand_stands]
    by_cases same : i = j <;> simp [same]

/-- The RECORD demands leave the sections' demands alone. -/
theorem Ctx.syncDemand_section (c : Ctx) (x : Slot) (i : Sec) :
    ((c.syncDemand x).s.seq.demands.get (.section_ i)).isSome = (c.s.seq.demands.get (.section_ i)).isSome := by
  rw [Ctx.syncDemand, Ctx.demand_stands, if_neg (by simp)]

/-! ## Wheels -/

/-- No record holds wheels in a section. -/
def Tracker.NoWheels (t : Tracker) (i : Sec) : Prop :=
  ∀ (j : Slot) (r : TrainRec), t.recs[j] = some r → r.wheelsIn i = 0

theorem Tracker.NoWheels.liveRecs {t : Tracker} {i : Sec} (h : t.NoWheels i) : ∀ r ∈ t.liveRecs, r.wheelsIn i = 0 := by
  intro r hr
  obtain ⟨j, -, hj⟩ := List.mem_filterMap.mp hr
  exact h j r hj

/-- A record's wheels depend on its counts and its place alone. -/
theorem TrainRec.wheelsIn_congr (r r' : TrainRec) (i : Sec) (track : r'.track = r.track) (side : r'.entrySide = r.entrySide)
    (entry : r'.wEntry = r.wEntry) (island : r'.wIsland = r.wIsland) (exit : r'.wExit = r.wExit) :
    r'.wheelsIn i = r.wheelsIn i := by
  cases r; cases r'
  dsimp only at track side entry island exit
  subst_vars
  rfl

theorem TrainRec.setWheels_fields (r : TrainRec) (i : Sec) (n : Nat) :
    (r.setWheels i n).entrySec = r.entrySec ∧ (r.setWheels i n).islandSec = r.islandSec ∧
    (r.setWheels i n).exitSec = r.exitSec ∧
    (r.setWheels i n).wEntry = (if i = r.entrySec then n else r.wEntry) ∧
    (r.setWheels i n).wIsland = (if i ≠ r.entrySec ∧ i = r.islandSec then n else r.wIsland) ∧
    (r.setWheels i n).wExit = (if i ≠ r.entrySec ∧ i ≠ r.islandSec ∧ i = r.exitSec then n else r.wExit) := by
  simp only [TrainRec.setWheels]
  split
  · simp_all [TrainRec.entrySec, TrainRec.islandSec, TrainRec.exitSec]
  · split
    · simp_all [TrainRec.entrySec, TrainRec.islandSec, TrainRec.exitSec]
    · split <;> simp_all [TrainRec.entrySec, TrainRec.islandSec, TrainRec.exitSec]

theorem TrainRec.wheelsIn_setWheels_zero (r : TrainRec) (i j : Sec) :
    (r.setWheels i 0).wheelsIn j = if j = i then 0 else r.wheelsIn j := by
  obtain ⟨entry, island, exit, wEntry, wIsland, wExit⟩ := r.setWheels_fields i 0
  rw [TrainRec.wheelsIn, entry, island, exit, wEntry, wIsland, wExit, TrainRec.wheelsIn]
  by_cases same : j = i
  · subst same
    repeat' split
    all_goals simp_all
  · repeat' split
    all_goals simp_all
theorem Tracker.recs_dropWheels (t : Tracker) (i : Sec) (j : Slot) :
    (t.dropWheels i).recs[j] = (t.recs[j]).map fun r => r.setWheels i 0 := by
  simp [Tracker.dropWheels]

theorem Tracker.noWheels_dropWheels (t : Tracker) (i : Sec) : (t.dropWheels i).NoWheels i := by
  intro j r hr
  rw [Tracker.recs_dropWheels, Option.map_eq_some_iff] at hr
  obtain ⟨r₀, -, rfl⟩ := hr
  rw [TrainRec.wheelsIn_setWheels_zero, if_pos rfl]

/-- The records of `t'` are records of `t` with wheels dropped or kept. -/
def Tracker.Thins (t t' : Tracker) : Prop :=
  ∀ (j : Slot) (r' : TrainRec), t'.recs[j] = some r' → ∃ r, t.recs[j] = some r ∧ ∀ i, r'.wheelsIn i ≤ r.wheelsIn i

theorem Tracker.Thins.refl (t : Tracker) : t.Thins t := fun _ r h => ⟨r, h, fun _ => Nat.le_refl _⟩

theorem Tracker.Thins.trans {a b c : Tracker} (h : a.Thins b) (k : b.Thins c) : a.Thins c := by
  intro j r₂ hr₂
  obtain ⟨r₁, hr₁, le₁⟩ := k j r₂ hr₂
  obtain ⟨r, hr, le⟩ := h j r₁ hr₁
  exact ⟨r, hr, fun i => Nat.le_trans (le₁ i) (le i)⟩

theorem Tracker.NoWheels.of_thins {t t' : Tracker} {i : Sec} (h : t.NoWheels i) (k : t.Thins t') : t'.NoWheels i := by
  intro j r' hr'
  obtain ⟨r, hr, le⟩ := k j r' hr'
  exact Nat.le_zero.mp (h j r hr ▸ le i)

theorem Ctx.forEach_thins {α : Type} {f : Ctx → α → Ctx} (step : ∀ (c : Ctx) (a : α), c.s.trk.Thins (f c a).s.trk)
    (l : List α) (c : Ctx) : c.s.trk.Thins (c.forEach l f).s.trk := by
  induction l generalizing c with
  | nil => exact .refl _
  | cons a l ih => exact (step c a).trans (ih (f c a))

/-- A change of one record that keeps its wheels. -/
theorem Tracker.thins_put (t : Tracker) (j : Slot) (r r' : TrainRec) (h : t.recs[j] = some r)
    (kept : ∀ i, r'.wheelsIn i = r.wheelsIn i) : t.Thins { t with recs := put t.recs j (some r') } := by
  intro x q hq
  by_cases same : x = j
  · subst same
    rw [put_same] at hq
    obtain rfl := Option.some.inj hq
    exact ⟨r, h, fun i => Nat.le_of_eq (kept i)⟩
  · rw [put_other _ _ _ _ same] at hq
    exact ⟨q, hq, fun _ => Nat.le_refl _⟩

theorem Tracker.thins_upd (t : Tracker) (j : Slot) (f : TrainRec → TrainRec)
    (kept : ∀ r i, (f r).wheelsIn i = r.wheelsIn i) : t.Thins { t with recs := upd t.recs j fun r => r.map f } := by
  intro x q hq
  by_cases same : x = j
  · subst same
    rw [upd_same, Option.map_eq_some_iff] at hq
    obtain ⟨r, hr, rfl⟩ := hq
    exact ⟨r, hr, fun i => Nat.le_of_eq (kept r i)⟩
  · rw [upd_other _ _ _ _ same] at hq
    exact ⟨q, hq, fun _ => Nat.le_refl _⟩

theorem Tracker.thins_dropWheels (t : Tracker) (i : Sec) : t.Thins (t.dropWheels i) := by
  intro j r' hr'
  rw [Tracker.recs_dropWheels, Option.map_eq_some_iff] at hr'
  obtain ⟨r, hr, rfl⟩ := hr'
  refine ⟨r, hr, fun k => ?_⟩
  rw [TrainRec.wheelsIn_setWheels_zero]
  split <;> simp

theorem Tracker.thins_purge (t : Tracker) : t.Thins t.purge := by
  intro j r hr
  simp only [Tracker.purge, Fin.getElem_fin, Vector.getElem_map, Option.filter_eq_some_iff] at hr
  exact ⟨r, hr.1, fun _ => Nat.le_refl _⟩

theorem TrainRec.takeStatus_wheels (r : TrainRec) (st : Status) (now : Time) (i : Sec) :
    (r.takeStatus st now).wheelsIn i = r.wheelsIn i := by
  simp only [TrainRec.takeStatus, TrainRec.reachAt]
  repeat' split
  all_goals exact TrainRec.wheelsIn_congr _ _ i rfl rfl rfl rfl rfl

theorem TrainRec.showProceed_wheels (r : TrainRec) (k : Track) (lit : Bool) (now timeout : Nat) (i : Sec) :
    (r.showProceed k lit now timeout).wheelsIn i = r.wheelsIn i := by
  simp only [TrainRec.showProceed]
  repeat' split
  all_goals exact TrainRec.wheelsIn_congr _ _ i rfl rfl rfl rfl rfl

theorem Ctx.settle_thins (c : Ctx) (g : Gone) (j : Slot) : c.s.trk.Thins (c.settle g j).s.trk := by
  simp only [Ctx.settle]
  split
  · exact .refl _
  · next r hr =>
    split
    · split <;> exact .refl _
    · split
      · exact .refl _
      · exact Tracker.thins_put _ j r _ hr (r.takeStatus_wheels _ _)

theorem Ctx.deriveIndicator_thins (c : Ctx) (k : Track) : c.s.trk.Thins (c.deriveIndicator k).s.trk := by
  simp only [Ctx.deriveIndicator]
  generalize indicatorLit c.s.seq c.s.flt c.s.trk k = lit
  have lamp : (c.setLamp (indicatorOf k) (if lit = true then .lit else .dark)).s.trk = c.s.trk := by simp
  rw [← lamp]
  exact Ctx.forEach_thins (fun c j => Tracker.thins_upd _ j _ fun r => r.showProceed_wheels k lit _ _) _ _

theorem Ctx.finish_thins (c : Ctx) : c.s.trk.Thins c.finish.s.trk := by
  simp only [Ctx.finish, Ctx.closeReports_frame]
  have derived : (c.takeExit.faultWork.deriveClosure).s.trk = c.s.trk := by simp
  rw [← derived]
  exact Ctx.forEach_thins Ctx.deriveIndicator_thins _ _

theorem Ctx.closeTracker_thins (c : Ctx) (old : Tracker) : c.s.trk.Thins (c.closeTracker old).s.trk := by
  have purged : (c.closeTracker old).s.trk = c.s.trk.purge := by simp [Ctx.closeTracker]
  rw [purged]
  exact c.s.trk.thins_purge

/-! ## A disturbance -/

/-- The entry of a DISTURBED section (R23). -/
def SecRec.disturbed (why : Reason) : SecRec := ⟨.disturbed, 0, false, some why⟩

/-- The notice of a section that is DISTURBED (R32). -/
def disturbedNotice (i : Sec) (why : Reason) : Notice := ⟨secPoint i, true, some (.section_ why)⟩

theorem Ctx.setSection_secs (c : Ctx) (i : Sec) (x : SecRec) (y : SecCause) :
    (c.setSection i x y).s.secs = { c.s.secs with table := put c.s.secs.table i x } := by
  simp only [Ctx.setSection]
  repeat' split
  all_goals simp [Ctx.modSecs]

theorem Ctx.setSection_demands (c : Ctx) (i : Sec) (x : SecRec) (y : SecCause) :
    (c.setSection i x y).demands = c.demands := by
  simp only [Ctx.setSection, Ctx.exitNotice]
  repeat' split
  all_goals rfl

theorem Ctx.settle_demands (c : Ctx) (g : Gone) (j : Slot) : (c.settle g j).demands = c.demands := by
  simp only [Ctx.settle]
  repeat' split
  all_goals rfl

theorem Ctx.reportGained_demands (c : Ctx) (old : Tracker) (j : Slot) : (c.reportGained old j).demands = c.demands := by
  simp only [Ctx.reportGained]
  repeat' split
  all_goals rfl

section Disturbance

variable (c : Ctx) (i : Sec) (why : Reason) (h : Head)

theorem Ctx.disturbAndDrop_secs : (c.disturbAndDrop i why h).s.secs =
    { c.s.secs with table := put c.s.secs.table i (.disturbed why) } := by
  simp [Ctx.disturbAndDrop, Ctx.disturb, Ctx.setSection_secs, SecRec.disturbed]

theorem Ctx.disturbAndDrop_demands : (c.disturbAndDrop i why h).demands = c.demands ++ [(.section_ i, true)] := by
  simp only [Ctx.disturbAndDrop]
  rw [Ctx.forEach_keeps Ctx.demands _ fun c j => Ctx.settle_demands c _ j]
  simp [Ctx.disturb, Ctx.queueDemand, Ctx.notice, Ctx.setSection_demands]

/-- The work of a disturbance before its notice, and after it. -/
theorem Ctx.disturbAndDrop_calm : ∃ d, c.Calm d ∧
    (d.notice (secPoint i) true (some (.section_ why))).Calm (c.disturbAndDrop i why h) := by
  refine ⟨(c.setSection i (.disturbed why) (.head h)).queueDemand (.section_ i) true,
    .trans (.setSection (.refl c)) (.of_eq rfl rfl rfl rfl), ?_⟩
  unfold Ctx.disturbAndDrop Ctx.disturb
  exact .forEach (.modTrk (.refl _)) fun _ _ => .settle (.refl _)

theorem Ctx.disturbAndDrop_continues : c.Continues (c.disturbAndDrop i why h) := by
  obtain ⟨d, before, after⟩ := c.disturbAndDrop_calm i why h
  exact before.toContinues.trans ⟨after.bus, after.leftMaint, after.trains⟩

theorem Ctx.disturbAndDrop_noticesOf (p : Point) (hp : HeadOrSec p) : (c.disturbAndDrop i why h).noticesOf p =
    c.noticesOf p ++ if secPoint i = p then [disturbedNotice i why] else [] := by
  obtain ⟨d, before, after⟩ := c.disturbAndDrop_calm i why h
  rw [after.notices p hp, Ctx.noticesOf_notice, before.notices p hp]
  rfl

/-- The records lose their wheels in the section, and gain none elsewhere (R46). -/
theorem Ctx.disturbAndDrop_wheels : (c.disturbAndDrop i why h).s.trk.NoWheels i ∧
    c.s.trk.Thins (c.disturbAndDrop i why h).s.trk := by
  have dropped : (c.disturb i why h).s.trk = c.s.trk.dropWheels i := by simp [Ctx.disturb]
  have settled := Ctx.forEach_thins (fun c j => c.settle_thins (.lost i) j) (c.s.trk.holders i) (c.disturb i why h)
  rw [dropped] at settled
  exact ⟨(c.s.trk.noWheels_dropWheels i).of_thins settled, (c.s.trk.thins_dropWheels i).trans settled⟩

end Disturbance

/-- A head's sections disturbed in turn. -/
def Ctx.disturbAll (c : Ctx) (l : List Sec) (why : Reason) (h : Head) : Ctx :=
  c.forEach l fun c i => c.disturbAndDrop i why h

section Disturbances

variable (why : Reason) (h : Head)

theorem Ctx.disturbAll_cons (c : Ctx) (i : Sec) (l : List Sec) :
    c.disturbAll (i :: l) why h = (c.disturbAndDrop i why h).disturbAll l why h := rfl

theorem Ctx.disturbAll_continues (l : List Sec) (c : Ctx) : c.Continues (c.disturbAll l why h) := by
  induction l generalizing c with
  | nil => exact .refl c
  | cons i l ih => exact (c.disturbAndDrop_continues i why h).trans (ih _)

theorem Ctx.disturbAll_movement (l : List Sec) (c : Ctx) : (c.disturbAll l why h).s.secs.movement = c.s.secs.movement :=
  Ctx.forEach_keeps (fun c => c.s.secs.movement) _ (fun c i => by rw [Ctx.disturbAndDrop_secs]) l c

theorem Ctx.disturbAll_table (l : List Sec) (c : Ctx) (i : Sec) :
    (c.disturbAll l why h).s.secs.table[i] = if i ∈ l then .disturbed why else c.s.secs.table[i] := by
  induction l generalizing c with
  | nil => rfl
  | cons j l ih =>
    rw [Ctx.disturbAll_cons, ih, Ctx.disturbAndDrop_secs]
    by_cases last : i ∈ l
    · rw [if_pos last, if_pos (List.mem_cons_of_mem _ last)]
    · by_cases same : i = j
      · rw [if_neg last, same, if_pos List.mem_cons_self, put_same]
      · rw [if_neg last, if_neg (by simp [same, last]), put_other _ _ _ _ same]

theorem Ctx.disturbAll_demands (l : List Sec) (c : Ctx) :
    (c.disturbAll l why h).demands = c.demands ++ l.map fun i => (.section_ i, true) := by
  induction l generalizing c with
  | nil => simp [Ctx.disturbAll, Ctx.forEach]
  | cons i l ih => rw [Ctx.disturbAll_cons, ih, Ctx.disturbAndDrop_demands, List.append_assoc]; rfl

theorem Ctx.disturbAll_thins (l : List Sec) (c : Ctx) : c.s.trk.Thins (c.disturbAll l why h).s.trk :=
  Ctx.forEach_thins (fun c i => (c.disturbAndDrop_wheels i why h).2) l c

theorem Ctx.disturbAll_wheels (l : List Sec) (c : Ctx) : ∀ i ∈ l, (c.disturbAll l why h).s.trk.NoWheels i := by
  induction l generalizing c with
  | nil => simp
  | cons j l ih =>
    rintro i (_ | ⟨_, later⟩)
    · exact (c.disturbAndDrop_wheels j why h).1.of_thins (Ctx.disturbAll_thins why h l _)
    · exact ih _ i later

/-- Each section disturbed gives one notice, and no other point of a head or a section has one. -/
theorem Ctx.disturbAll_noticesOf (l : List Sec) (c : Ctx) (p : Point) (hp : HeadOrSec p) :
    (c.disturbAll l why h).noticesOf p =
      c.noticesOf p ++ (l.filter fun i => secPoint i = p).map fun i => disturbedNotice i why := by
  induction l generalizing c with
  | nil => simp [Ctx.disturbAll, Ctx.forEach]
  | cons i l ih =>
    rw [Ctx.disturbAll_cons, ih, Ctx.disturbAndDrop_noticesOf _ _ _ _ _ hp, List.append_assoc]
    by_cases here : secPoint i = p <;> simp [here]

end Disturbances

/-! ## The close of the tracker -/

/-- The demands asked for sections stand when the tracker has closed the event (R31). -/
theorem Ctx.closeTracker_demands (c : Ctx) (old : Tracker) (l : List Sec)
    (asked : c.demands = l.map fun i => (.section_ i, true)) :
    ∀ i ∈ l, ((c.closeTracker old).s.seq.demands.get (.section_ i)).isSome = true := by
  intro i hi
  have reported : (c.forEach c.s.trk.listed fun c i => c.reportGained old i).demands = c.demands :=
    Ctx.forEach_keeps Ctx.demands _ (fun c j => Ctx.reportGained_demands c old j) _ c
  unfold Ctx.closeTracker
  dsimp only
  rw [Ctx.forEach_keeps (fun c => c.s.seq.demands) _ fun c j => by split <;> simp,
    Ctx.forEach_keeps (fun c => (c.s.seq.demands.get (.section_ i)).isSome) _ fun c j => c.syncDemand_section j i]
  simp only [Ctx.modTrk, reported, asked]
  exact (Ctx.forEach_demand_sections l _ i).mpr (Or.inl hi)

end Sys2Proof.Machine
end

section
/-! PROOFS. The end of an event at one fault point (R113 to R121): how a point's entry, present value and report follow from
the notices of the event. -/

namespace Sys2Proof.Machine

/-! ## Reports keep their places -/

/-- No entry of the queue loses its place: origin and key of each stay, and new ones join behind them (R123). -/
def PlacesKept (q q' : List Entry) : Prop :=
  q.map (fun x => (x.content.origin, x.content.key)) <+: q'.map fun x => (x.content.origin, x.content.key)

theorem PlacesKept.refl (q : List Entry) : PlacesKept q q := List.prefix_refl _

theorem PlacesKept.trans {a b c : List Entry} (h : PlacesKept a b) (k : PlacesKept b c) : PlacesKept a c :=
  List.IsPrefix.trans h k

theorem Entry.sameSubject_iff (e : Entry) (x : Content) (h : e.sameSubject x = true) :
    e.content.origin = x.origin ∧ e.content.key = x.key := by
  cases x <;> simp_all [Entry.sameSubject]

theorem updatedContent_subject (x y : Content) :
    (updatedContent x y).origin = y.origin ∧ (updatedContent x y).key = y.key := by
  cases x <;> cases y <;> exact ⟨rfl, rfl⟩

/-- An update keeps the subject of an entry. -/
theorem Entry.update_subject (e : Entry) (x : Content) (b : Bool) (h : e.sameSubject x = true) :
    (e.update x b).content.origin = e.content.origin ∧ (e.update x b).content.key = e.content.key := by
  obtain ⟨origin, key⟩ := e.sameSubject_iff x h
  obtain ⟨origin', key'⟩ := updatedContent_subject e.content x
  exact ⟨origin'.trans origin.symm, key'.trans key.symm⟩

theorem sendReport_places (x : Content) (b : Bool) (q : List Entry) : PlacesKept q (sendReport x b q) := by
  induction q with
  | nil => exact List.nil_prefix
  | cons e q ih =>
    simp only [sendReport]
    split
    · next same =>
      obtain ⟨origin, key⟩ := e.update_subject x b same
      simp [PlacesKept, origin, key]
    · exact List.prefix_cons_inj _ |>.mpr ih

/-- A report of another subject leaves a point's report as it is. -/
theorem sendReport_other (p : Point) (x : Content) (b : Bool) (q : List Entry)
    (other : ¬ (x.origin = .fault ∧ x.key = some p.val)) :
    (sendReport x b q).filter (Entry.ofPoint p) = q.filter (Entry.ofPoint p) := by
  induction q with
  | nil => simpa [sendReport, Entry.ofPoint] using other
  | cons e q ih =>
    simp only [sendReport]
    split
    · next same =>
      obtain ⟨origin, key⟩ := e.sameSubject_iff x same
      obtain ⟨origin', key'⟩ := e.update_subject x b same
      have before : e.ofPoint p = false := by simpa [Entry.ofPoint, origin, key] using other
      have after : (e.update x b).ofPoint p = false := by simpa [Entry.ofPoint, origin, key, origin', key'] using other
      simp [before, after]
    · simp [List.filter_cons, ih]

/-- A point's report joins or updates its entry as if the queue held that entry alone. -/
theorem sendReport_own (p : Point) (e : FaultEntry) (b : Bool) (q : List Entry) :
    (sendReport (faultContent p e) b q).filter (Entry.ofPoint p) =
      sendReport (faultContent p e) b (q.filter (Entry.ofPoint p)) := by
  induction q with
  | nil => simp [sendReport, Entry.ofPoint, faultContent, Content.origin, Content.key]
  | cons x q ih =>
    have subject : x.sameSubject (faultContent p e) = x.ofPoint p := rfl
    by_cases own : x.ofPoint p = true
    · have updated : (x.update (faultContent p e) b).ofPoint p = true := by
        obtain ⟨origin, key⟩ := x.update_subject (faultContent p e) b (subject.trans own)
        simpa [Entry.ofPoint, origin, key] using own
      simp [sendReport, subject, own, updated]
    · simp [sendReport, subject, own, ih]

/-- A point's report with none queued joins with the point's class (R116). -/
theorem sendReport_fault_nil (p : Point) (e : FaultEntry) (b : Bool) :
    sendReport (faultContent p e) b [] = [⟨faultContent p e, pointClass p, none, false⟩] := rfl

/-- A point's report updates the one queued in its place (R124). -/
theorem sendReport_fault_singleton (p : Point) (e : FaultEntry) (b : Bool) (x : Entry) (own : x.ofPoint p = true) :
    sendReport (faultContent p e) b [x] = [{ x with
      content := faultContent p e, cls := pointClass p, changed := x.sent.isSome || x.changed }] := by
  have subject : x.sameSubject (faultContent p e) = true := own
  have content : updatedContent x.content (faultContent p e) = faultContent p e := by cases x.content <;> rfl
  simp only [sendReport, subject, if_true, Entry.update, content]
  rfl

/-! ## One point of the part -/

/-- What the part holds of one fault point: its entry, the present value of its condition and its queued reports. -/
structure PointView where
  entry : FaultEntry
  present : Bool
  reports : List Entry

def State.view (s : State) (p : Point) : PointView :=
  ⟨s.flt.table[p], s.flt.present[p], s.queue.filter (Entry.ofPoint p)⟩

theorem State.view_entry (s : State) (p : Point) : (s.view p).entry = s.flt.table[p] := rfl

theorem State.view_present (s : State) (p : Point) : (s.view p).present = s.flt.present[p] := rfl

theorem State.view_reports (s : State) (p : Point) : (s.view p).reports = s.queue.filter (Entry.ofPoint p) := rfl

theorem State.view_congr {s t : State} (flt : t.flt = s.flt) (queue : t.queue = s.queue) (p : Point) :
    t.view p = s.view p := by
  simp only [State.view, flt, queue]

/-- A mode change alone leaves every point as it is. -/
theorem State.view_congr_registers {s t : State} (table : t.flt.table = s.flt.table) (present : t.flt.present = s.flt.present)
    (queue : t.queue = s.queue) (p : Point) : t.view p = s.view p := by
  simp only [State.view, table, present, queue]

/-- The point's report, unless its in-maintenance flag holds it back (R118). -/
def PointView.report (v : PointView) (p : Point) : PointView :=
  if v.entry.inMaint then v else { v with reports := sendReport (faultContent p v.entry) false v.reports }

/-- The point at the end of maintenance (R118). -/
def PointView.unflag (v : PointView) (p : Point) : PointView :=
  if v.entry.inMaint then
    let v' := { v with entry := { v.entry with inMaint := false } }
    if v.entry.state = .healthy then v' else v'.report p
  else v

namespace Ctx

theorem reportPoint_view (c : Ctx) (p : Point) (h : p ≠ fpLink) : (c.reportPoint p).s.view p = (c.s.view p).report p := by
  by_cases flag : c.s.flt.table[p].inMaint = true
  · simp [-Fin.getElem_fin, reportPoint, PointView.report, State.view, flag]
  · simp [-Fin.getElem_fin, reportPoint, PointView.report, State.view, flag, h, modQueue, sendReport_own]

theorem reportPoint_view_other (c : Ctx) (p q : Point) (h : q ≠ p) : (c.reportPoint q).s.view p = c.s.view p := by
  have other : ¬ ((faultContent q c.s.flt.table[q]).origin = .fault ∧ (faultContent q c.s.flt.table[q]).key = some p.val) :=
    fun same => h (Fin.ext (Option.some.inj same.2))
  simp only [reportPoint]
  split
  · rfl
  · simp only [State.view, modQueue, sendReport_other p _ _ _ other]

theorem reportPoint_places (c : Ctx) (p : Point) : PlacesKept c.s.queue (c.reportPoint p).s.queue := by
  simp only [reportPoint]
  split
  · exact .refl _
  · exact sendReport_places _ _ _

theorem setEntry_view (c : Ctx) (p : Point) (e : FaultEntry) :
    (c.setEntry p e).s.view p = { c.s.view p with entry := e } := by
  simp only [State.view, setEntry, modFlt, put_same]

theorem setEntry_view_other (c : Ctx) (p q : Point) (e : FaultEntry) (h : q ≠ p) :
    (c.setEntry q e).s.view p = c.s.view p := by
  simp only [State.view, setEntry, modFlt, put_other _ _ _ _ h.symm]

theorem unflag_view (c : Ctx) (p : Point) (h : p ≠ fpLink) : (c.unflag p).s.view p = (c.s.view p).unflag p := by
  have flag : (c.s.view p).entry = c.s.flt.table[p] := rfl
  simp only [unflag, PointView.unflag, flag]
  split
  · split
    · exact c.setEntry_view p _
    · rw [reportPoint_view _ _ h, setEntry_view]
  · rfl

theorem unflag_view_other (c : Ctx) (p q : Point) (h : q ≠ p) : (c.unflag q).s.view p = c.s.view p := by
  simp only [unflag]
  split
  · split
    · exact c.setEntry_view_other p q _ h
    · rw [reportPoint_view_other _ _ _ h, setEntry_view_other _ _ _ _ h]
  · rfl

theorem unflag_places (c : Ctx) (p : Point) : PlacesKept c.s.queue (c.unflag p).s.queue := by
  simp only [unflag]
  split
  · split
    · exact .refl _
    · exact reportPoint_places (c.setEntry p _) p
  · exact .refl _

/-! ## One notice -/

/-- A point's condition and entry change together: the event is staged, then the report is sent. -/
def changePoint (c : Ctx) (p : Point) (present : Bool) (e : FaultEntry) (event : EventBody) : Ctx :=
  ((((c.modFlt fun f => { f with present := put f.present p present }).setEntry p e).stage event).reportPoint p)

theorem changePoint_view (c : Ctx) (p : Point) (b : Bool) (e : FaultEntry) (event : EventBody) (h : p ≠ fpLink) :
    (c.changePoint p b e event).s.view p = PointView.report ⟨e, b, (c.s.view p).reports⟩ p := by
  rw [changePoint, reportPoint_view _ _ h]
  simp only [State.view, setEntry, modFlt, stage, State.stage, put_same]

theorem changePoint_view_other (c : Ctx) (p q : Point) (b : Bool) (e : FaultEntry) (event : EventBody) (h : q ≠ p) :
    (c.changePoint q b e event).s.view p = c.s.view p := by
  rw [changePoint, reportPoint_view_other _ _ _ h]
  simp only [State.view, setEntry, modFlt, stage, State.stage, put_other _ _ _ _ h.symm]

@[simp] theorem changePoint_bus (c : Ctx) (p : Point) (b : Bool) (e : FaultEntry) (event : EventBody) :
    (c.changePoint p b e event).s.bus = c.s.bus.stage c.s.now event := by
  simp [changePoint]

theorem changePoint_places (c : Ctx) (p : Point) (b : Bool) (e : FaultEntry) (event : EventBody) :
    PlacesKept c.s.queue (c.changePoint p b e event).s.queue :=
  reportPoint_places (((c.modFlt _).setEntry p e).stage event) p

/-- A notice that repeats the present value does nothing (R111). -/
theorem takeNotice_repeated (c : Ctx) (n : Notice) (h : c.s.flt.present[n.point] = n.present) : c.takeNotice n = c :=
  if_pos h

/-- The entry that a notice's arising or going makes, if any (R113). -/
def noticedEntry (c : Ctx) (n : Notice) : Option FaultEntry :=
  if n.present then (c.s.flt.table[n.point]).arise c.s.now n.cause (c.s.flt.mode == .maintenance && n.point != fpLink)
  else (c.s.flt.table[n.point]).go c.s.now (n.point == fpLink)

/-- The event of a notice's arising or going (R121). -/
def noticedEvent (c : Ctx) (n : Notice) (e : FaultEntry) : EventBody :=
  let old := (c.s.flt.table[n.point]).state
  if n.present then .faultRaised n.point old e.state e.count e.cause else .faultCleared n.point old e.state e.count

theorem takeNotice_changed (c : Ctx) (n : Notice) (change : c.s.flt.present[n.point] ≠ n.present) :
    c.takeNotice n = match c.noticedEntry n with
      | none => c.modFlt fun f => { f with present := put f.present n.point n.present }
      | some e => c.changePoint n.point n.present e (c.noticedEvent n e) := by
  simp only [takeNotice, noticedEntry, noticedEvent]
  rw [if_neg change]
  cases n.present with
  | true =>
    simp only [if_true, modFlt]
    split <;> simp_all
    rfl
  | false =>
    simp only [Bool.false_eq_true, if_false, modFlt]
    split <;> simp_all
    rfl

theorem takeNotice_view_other (c : Ctx) (n : Notice) (p : Point) (h : n.point ≠ p) :
    (c.takeNotice n).s.view p = c.s.view p := by
  by_cases change : c.s.flt.present[n.point] = n.present
  · rw [c.takeNotice_repeated n change]
  · rw [c.takeNotice_changed n change]
    split
    · simp only [State.view, modFlt, put_other _ _ _ _ h.symm]
    · exact c.changePoint_view_other p n.point _ _ _ h

theorem takeNotice_present (c : Ctx) (n : Notice) (p : Point) :
    (c.takeNotice n).s.flt.present[p] = if n.point = p then n.present else c.s.flt.present[p] := by
  have written : (put c.s.flt.present n.point n.present)[p] = if n.point = p then n.present else c.s.flt.present[p] := by
    split
    · next same => rw [same, put_same]
    · next other => exact put_other _ _ _ _ (Ne.symm other)
  by_cases change : c.s.flt.present[n.point] = n.present
  · rw [c.takeNotice_repeated n change]
    split
    · next same => rw [← same, change]
    · rfl
  · rw [c.takeNotice_changed n change]
    split
    · exact written
    · rw [← written]
      simp [changePoint]

/-! ## The reports that close an event (R122) -/

/-- The crossing-state report, when one is due. -/
def reportCrossing (c : Ctx) : Ctx :=
  if c.modeChanged || c.openClosed then c.modQueue (sendReport (crossingContent c.s) c.enteredFailed) else c

/-- The flagged entries at the end of maintenance (R118). -/
def endMaintenance (c : Ctx) : Ctx := if c.leftMaint then c.forEach allPoints unflag else c

theorem closeReports_eq (c : Ctx) : c.closeReports =
    c.reportCrossing.endMaintenance.forEach c.reportCrossing.endMaintenance.trains fun c x =>
      c.modQueue (sendReport x false) := rfl

/-! ## Work that reports -/

/-- Work of the end of an event: it stages behind the earlier events, and no queued report loses its place. -/
structure Reports (c c' : Ctx) : Prop where
  bus : c.s.bus.Grows c'.s.bus
  places : PlacesKept c.s.queue c'.s.queue

namespace Reports

theorem of_eq {c c' : Ctx} (bus : c'.s.bus = c.s.bus) (queue : c'.s.queue = c.s.queue) : c.Reports c' :=
  ⟨.of_eq bus, queue ▸ .refl _⟩

theorem refl (c : Ctx) : c.Reports c := of_eq rfl rfl

theorem trans {a b c : Ctx} (h : a.Reports b) (k : b.Reports c) : a.Reports c :=
  ⟨h.bus.trans k.bus, h.places.trans k.places⟩

theorem forEach {α : Type} {f : Ctx → α → Ctx} (step : ∀ (c : Ctx) (a : α), c.Reports (f c a)) (l : List α) (c : Ctx) :
    c.Reports (c.forEach l f) := by
  induction l generalizing c with
  | nil => exact refl c
  | cons a l ih => exact (step c a).trans (ih (f c a))

theorem takeNotice (c : Ctx) (n : Notice) : c.Reports (c.takeNotice n) := by
  by_cases change : c.s.flt.present[n.point] = n.present
  · rw [c.takeNotice_repeated n change]
    exact refl c
  · rw [c.takeNotice_changed n change]
    split
    · exact of_eq rfl rfl
    · exact ⟨by rw [changePoint_bus]; exact Bus.grows_stage _ _ _, c.changePoint_places _ _ _ _⟩

theorem deriveMode (c : Ctx) : c.Reports c.deriveMode := by
  simp only [Ctx.deriveMode]
  split
  · exact refl c
  · exact ⟨Bus.grows_stage _ _ _, .refl _⟩

theorem deriveClosure (c : Ctx) : c.Reports c.deriveClosure := by
  simp only [Ctx.deriveClosure]
  split
  · exact refl c
  · split
    · exact ⟨Bus.grows_stage _ _ _, .refl _⟩
    · exact of_eq rfl rfl

theorem deriveIndicator (c : Ctx) (k : Track) : c.Reports (c.deriveIndicator k) := of_eq (by simp) (by simp)

theorem sendReport (c : Ctx) (x : Content) (b : Bool) : c.Reports (c.modQueue (sendReport x b)) :=
  ⟨.refl _, sendReport_places x b _⟩

theorem reportCrossing (c : Ctx) : c.Reports c.reportCrossing := by
  unfold Ctx.reportCrossing
  split
  · exact sendReport c _ _
  · exact refl c

theorem endMaintenance (c : Ctx) : c.Reports c.endMaintenance := by
  unfold Ctx.endMaintenance
  split
  · exact forEach (fun c p => ⟨.of_eq (by simp), c.unflag_places p⟩) _ _
  · exact refl c

theorem closeReports (c : Ctx) : c.Reports c.closeReports :=
  ((reportCrossing c).trans (endMaintenance _)).trans (forEach (fun c x => sendReport c x false) _ _)

end Reports

/-! ## The points of an event, in order -/

theorem forEach_append {α : Type} (c : Ctx) (l k : List α) (f : Ctx → α → Ctx) :
    c.forEach (l ++ k) f = (c.forEach l f).forEach k f := List.foldl_append

/-- Work on other points leaves a point as it is. -/
theorem forEach_view {α : Type} (p : Point) (f : Ctx → α → Ctx) (l : List α)
    (step : ∀ a ∈ l, ∀ c : Ctx, (f c a).s.view p = c.s.view p) (c : Ctx) : (c.forEach l f).s.view p = c.s.view p := by
  induction l generalizing c with
  | nil => rfl
  | cons a l ih =>
    exact (ih (fun b hb => step b (List.mem_cons_of_mem _ hb)) (f c a)).trans (step a List.mem_cons_self c)

end Ctx

theorem mem_allPoints (p : Point) : p ∈ allPoints := by revert p; decide

theorem allPoints_nodup : allPoints.Nodup := by decide

/-- Point order: each point has its place, with the other points before and behind it. -/
theorem allPoints_split (p : Point) : ∃ before after, allPoints = before ++ p :: after ∧ p ∉ before ∧ p ∉ after := by
  obtain ⟨before, after, split⟩ := List.append_of_mem (mem_allPoints p)
  have nodup := split ▸ allPoints_nodup
  rw [List.nodup_append, List.nodup_cons] at nodup
  exact ⟨before, after, split, fun h => nodup.2.2 p h p List.mem_cons_self rfl, nodup.2.1.1⟩

/-- The notices in point order: those of a point together, with those of other points before and behind them (R121). -/
theorem inPointOrder_split (ns : List Notice) (p : Point) : ∃ before after,
    inPointOrder ns = before ++ ns.filter (fun n => n.point == p) ++ after ∧
    (∀ n ∈ before, n.point ≠ p) ∧ ∀ n ∈ after, n.point ≠ p := by
  obtain ⟨before, after, split, notBefore, notAfter⟩ := allPoints_split p
  refine ⟨before.flatMap fun q => ns.filter fun n => n.point == q, after.flatMap fun q => ns.filter fun n => n.point == q,
    ?_, ?_, ?_⟩
  · simp [inPointOrder, split]
  · intro n hn same
    obtain ⟨q, hq, hn⟩ := List.mem_flatMap.mp hn
    exact notBefore (same ▸ (beq_iff_eq.mp (List.mem_filter.mp hn).2) ▸ hq)
  · intro n hn same
    obtain ⟨q, hq, hn⟩ := List.mem_flatMap.mp hn
    exact notAfter (same ▸ (beq_iff_eq.mp (List.mem_filter.mp hn).2) ▸ hq)

end Sys2Proof.Machine
end

section
/-! PROOFS. The end of an event: what `Ctx.finish` makes of one point of which the event gave at most one notice. -/

namespace Sys2Proof.Machine

/-- The mode is derived from the crossing state and the present conditions alone (R119). -/
theorem modeOf_congr {q q' : Sequence} {f f' : Faults} (state : q'.state = q.state) (present : f'.present = f.present) :
    modeOf q f = modeOf q' f' := by
  unfold modeOf failedConditions
  rw [state, present]

namespace Ctx

/-! ## Closing reports -/

theorem reportCrossing_view (c : Ctx) (p : Point) : c.reportCrossing.s.view p = c.s.view p := by
  unfold reportCrossing
  split
  · simp only [State.view, modQueue, sendReport_other p (crossingContent c.s) _ _ fun x => nomatch x.1]
  · rfl

theorem reportCrossing_fields (c : Ctx) :
    c.reportCrossing.leftMaint = c.leftMaint ∧ c.reportCrossing.trains = c.trains := by
  unfold reportCrossing
  split <;> exact ⟨rfl, rfl⟩

theorem reportPoint_fields (c : Ctx) (p : Point) :
    (c.reportPoint p).leftMaint = c.leftMaint ∧ (c.reportPoint p).trains = c.trains := by
  simp only [reportPoint]
  split <;> exact ⟨rfl, rfl⟩

theorem unflag_trains (c : Ctx) (p : Point) : (c.unflag p).trains = c.trains := by
  simp only [unflag]
  split
  · split
    · rfl
    · exact (reportPoint_fields (c.setEntry p _) p).2
  · rfl

theorem endMaintenance_trains (c : Ctx) : c.endMaintenance.trains = c.trains := by
  unfold endMaintenance
  split
  · exact forEach_keeps Ctx.trains _ unflag_trains _ c
  · rfl

theorem endMaintenance_view (c : Ctx) (p : Point) (h : p ≠ fpLink) :
    c.endMaintenance.s.view p = if c.leftMaint then (c.s.view p).unflag p else c.s.view p := by
  unfold endMaintenance
  split
  · obtain ⟨before, after, split, notBefore, notAfter⟩ := allPoints_split p
    have others : ∀ l : List Point, p ∉ l → ∀ c : Ctx, (c.forEach l unflag).s.view p = c.s.view p := fun l notIn =>
      forEach_view p unflag l fun q hq c => c.unflag_view_other p q fun same => notIn (same ▸ hq)
    rw [split, forEach_append, ← List.singleton_append, forEach_append, others _ notAfter]
    exact (unflag_view _ p h).trans (by rw [others _ notBefore])
  · rfl

theorem closeReports_view (c : Ctx) (p : Point) (h : p ≠ fpLink) (trains : c.TrainReports) :
    c.closeReports.s.view p = if c.leftMaint then (c.s.view p).unflag p else c.s.view p := by
  obtain ⟨left, same⟩ := c.reportCrossing_fields
  have onlyTrains : ∀ x ∈ c.reportCrossing.endMaintenance.trains, x.origin = .train := by
    rw [endMaintenance_trains, same]
    exact trains
  rw [closeReports_eq, forEach_view p _ _ fun x hx c => ?_, endMaintenance_view _ _ h, left, reportCrossing_view]
  have other : ¬ (x.origin = .fault ∧ x.key = some p.val) := fun fault => by
    rw [onlyTrains x hx] at fault
    exact nomatch fault.1
  simp only [State.view, modQueue, sendReport_other p x _ _ other]

/-! ## The points, the mode and what is derived -/

theorem takeNotice_fields (c : Ctx) (n : Notice) :
    (c.takeNotice n).leftMaint = c.leftMaint ∧ (c.takeNotice n).trains = c.trains := by
  by_cases change : c.s.flt.present[n.point] = n.present
  · rw [c.takeNotice_repeated n change]
    exact ⟨rfl, rfl⟩
  · rw [c.takeNotice_changed n change]
    split
    · exact ⟨rfl, rfl⟩
    · exact reportPoint_fields _ _

theorem takePoints_fields (c : Ctx) : c.takePoints.leftMaint = c.leftMaint ∧ c.takePoints.trains = c.trains :=
  ⟨forEach_keeps Ctx.leftMaint _ (fun c n => (c.takeNotice_fields n).1) _ _,
    forEach_keeps Ctx.trains _ (fun c n => (c.takeNotice_fields n).2) _ _⟩

theorem takePoints_mode (c : Ctx) : c.takePoints.s.flt.mode = c.s.flt.mode :=
  forEach_keeps (fun c => c.s.flt.mode) _ takeNotice_keeps _ _

theorem forEach_others_view (l : List Notice) (p : Point) (others : ∀ n ∈ l, n.point ≠ p) (c : Ctx) :
    (c.forEach l takeNotice).s.view p = c.s.view p :=
  forEach_view p takeNotice l (fun n hn c => c.takeNotice_view_other n p (others n hn)) c

theorem takePoints_view_none (c : Ctx) (p : Point) (none : c.noticesOf p = []) : c.takePoints.s.view p = c.s.view p := by
  obtain ⟨before, after, split, notBefore, notAfter⟩ := inPointOrder_split c.notices p
  rw [show c.notices.filter (fun n => n.point == p) = [] from none, List.append_nil] at split
  simp only [takePoints, split, forEach_append]
  rw [forEach_others_view _ _ notAfter, forEach_others_view _ _ notBefore]

/-- A point's one notice is taken between the notices of other points. -/
structure TakesBetween (c d : Ctx) (p : Point) (n : Notice) (a : Ctx) : Prop where
  before : c.Reports a
  after : (a.takeNotice n).Reports d
  view : a.s.view p = c.s.view p
  mode : a.s.flt.mode = c.s.flt.mode
  now : a.s.now = c.s.now

theorem takePoints_view_one (c : Ctx) (p : Point) (n : Notice) (one : c.noticesOf p = [n]) : ∃ a,
    c.TakesBetween c.takePoints p n a ∧ c.takePoints.s.view p = (a.takeNotice n).s.view p := by
  obtain ⟨before, after, split, notBefore, notAfter⟩ := inPointOrder_split c.notices p
  rw [show c.notices.filter (fun n => n.point == p) = [n] from one] at split
  have taken : c.takePoints = (((({ c with notices := [] } : Ctx).forEach before takeNotice).takeNotice n).forEach after
      takeNotice) := by
    simp only [takePoints, split, forEach_append]
    rfl
  have reports := fun (l : List Notice) (c : Ctx) => Reports.forEach Reports.takeNotice l c
  refine ⟨({ c with notices := [] } : Ctx).forEach before takeNotice, ⟨?_, ?_, ?_, ?_, ?_⟩, ?_⟩
  · refine .trans (b := { c with notices := [] }) (.of_eq rfl rfl) (reports before _)
  · exact taken ▸ reports after _
  · exact forEach_others_view before p notBefore _
  · exact forEach_keeps (fun c => c.s.flt.mode) _ takeNotice_keeps _ _
  · exact forEach_now _ _ _ fun c n => by simp
  · rw [taken, forEach_others_view _ _ notAfter]

theorem deriveMode_view (c : Ctx) (p : Point) : c.deriveMode.s.view p = c.s.view p := by
  simp only [deriveMode]
  split <;> rfl

theorem deriveMode_trains (c : Ctx) : c.deriveMode.trains = c.trains := by
  simp only [deriveMode]
  split <;> rfl

theorem deriveMode_mode (c : Ctx) : c.deriveMode.s.flt.mode = modeOf c.s.seq c.s.flt := by
  simp only [deriveMode]
  split
  · next same => exact same.symm
  · rfl

/-- Maintenance ends when the mode leaves MAINTENANCE (R118). -/
theorem deriveMode_leftMaint (c : Ctx) : c.deriveMode.leftMaint = true ↔
    c.leftMaint = true ∨ (c.s.flt.mode = .maintenance ∧ c.deriveMode.s.flt.mode ≠ .maintenance) := by
  rw [deriveMode_mode]
  simp only [deriveMode]
  split
  · next same => simp_all
  · next change =>
    simp only [Bool.or_eq_true, beq_iff_eq]
    exact or_congr_right ⟨fun was => ⟨was, was ▸ change⟩, And.left⟩

theorem deriveClosure_fields (c : Ctx) :
    c.deriveClosure.leftMaint = c.leftMaint ∧ c.deriveClosure.trains = c.trains := by
  simp only [deriveClosure]
  repeat' split
  all_goals exact ⟨rfl, rfl⟩

theorem setLamp_fields (c : Ctx) (i : Lamp) (x : LampCmd) :
    (c.setLamp i x).leftMaint = c.leftMaint ∧ (c.setLamp i x).trains = c.trains := by
  simp only [setLamp]
  split <;> exact ⟨rfl, rfl⟩

theorem deriveIndicator_fields (c : Ctx) (k : Track) :
    (c.deriveIndicator k).leftMaint = c.leftMaint ∧ (c.deriveIndicator k).trains = c.trains := by
  simp only [deriveIndicator]
  exact ⟨(forEach_keeps Ctx.leftMaint _ (fun c i => by rfl) _ _).trans (setLamp_fields c _ _).1,
    (forEach_keeps Ctx.trains _ (fun c i => by rfl) _ _).trans (setLamp_fields c _ _).2⟩

/-- Closure proven and the driver's indicators, derived again. -/
def deriveOutputs (c : Ctx) : Ctx := c.deriveClosure.forEach allTracks deriveIndicator

theorem deriveOutputs_fields (c : Ctx) : c.deriveOutputs.leftMaint = c.leftMaint ∧ c.deriveOutputs.trains = c.trains :=
  ⟨(forEach_keeps Ctx.leftMaint _ (fun c k => (c.deriveIndicator_fields k).1) _ _).trans c.deriveClosure_fields.1,
    (forEach_keeps Ctx.trains _ (fun c k => (c.deriveIndicator_fields k).2) _ _).trans c.deriveClosure_fields.2⟩

theorem deriveOutputs_frame (c : Ctx) : c.deriveOutputs.s.flt = c.s.flt ∧ c.deriveOutputs.s.queue = c.s.queue ∧
    c.deriveOutputs.s.seq.state = c.s.seq.state := by
  simp [deriveOutputs]

theorem deriveOutputs_reports (c : Ctx) : c.Reports c.deriveOutputs :=
  (Reports.deriveClosure c).trans (.forEach Reports.deriveIndicator _ _)

/-! ## The end of an event -/

theorem finish_eq (c : Ctx) : c.finish = c.takeExit.takePoints.deriveMode.deriveOutputs.closeReports := rfl

/-- The work from the points on only stages and reports. -/
theorem finish_reports (c : Ctx) : c.takeExit.takePoints.Reports c.finish :=
  ((Reports.deriveMode _).trans (deriveOutputs_reports _)).trans (.closeReports _)

theorem takeExit_calm (c : Ctx) : c.Calm c.takeExit := .takeExit (.refl c)

theorem finish_grows (c : Ctx) : c.s.bus.Grows c.finish.s.bus :=
  (c.takeExit_calm.bus.trans (Reports.forEach Reports.takeNotice _ ({ c.takeExit with notices := [] } : Ctx)).bus).trans
    c.finish_reports.bus

/-- The mode of a finished event is derived from the points as they then stand (R119). -/
theorem finish_mode (c : Ctx) : c.finish.s.flt.mode = modeOf c.finish.s.seq c.finish.s.flt := by
  rw [finish_eq]
  generalize c.takeExit.takePoints = d
  obtain ⟨flt, -, state⟩ := d.deriveMode.deriveOutputs_frame
  have present : d.deriveMode.s.flt.present = d.s.flt.present := by simp only [deriveMode]; split <;> rfl
  have kept : d.deriveMode.s.seq.state = d.s.seq.state := by simp
  rw [(closeReports_keeps _).2, flt, deriveMode_mode]
  exact modeOf_congr (by rw [← kept, ← state]; simp) (by rw [(closeReports_keeps _).1, flt, present])

/-- The event ended maintenance. -/
theorem finish_leftMaint (c : Ctx) (started : c.leftMaint = false) :
    c.takeExit.takePoints.deriveMode.deriveOutputs.leftMaint = true ↔
      c.s.flt.mode = .maintenance ∧ c.finish.s.flt.mode ≠ .maintenance := by
  have mode : c.finish.s.flt.mode = c.takeExit.takePoints.deriveMode.s.flt.mode := by
    rw [finish_eq, (closeReports_keeps _).2, (deriveOutputs_frame _).1]
  have before : c.takeExit.takePoints.s.flt.mode = c.s.flt.mode := by rw [takePoints_mode]; simp
  have left : c.takeExit.takePoints.leftMaint = false := by
    rw [(takePoints_fields _).1, c.takeExit_calm.leftMaint, started]
  rw [(deriveOutputs_fields _).1, deriveMode_leftMaint, left, mode, before]
  simp

/-- A point after the event: as the points were taken, and unflagged when maintenance has ended. -/
theorem finish_view (c : Ctx) (p : Point) (h : p ≠ fpLink) (started : c.leftMaint = false) (trains : c.TrainReports) :
    c.finish.s.view p =
      if c.s.flt.mode = .maintenance ∧ c.finish.s.flt.mode ≠ .maintenance then (c.takeExit.takePoints.s.view p).unflag p
      else c.takeExit.takePoints.s.view p := by
  have left := c.finish_leftMaint started
  have onlyTrains : c.takeExit.takePoints.deriveMode.deriveOutputs.TrainReports := by
    have := c.takeExit_calm.trains trains
    rwa [TrainReports, (deriveOutputs_fields _).2, deriveMode_trains, (takePoints_fields _).2]
  have same : c.takeExit.takePoints.deriveMode.deriveOutputs.s.view p = c.takeExit.takePoints.s.view p := by
    rw [State.view_congr (deriveOutputs_frame _).1 (deriveOutputs_frame _).2.1, deriveMode_view]
  rw [finish_eq, closeReports_view _ p h onlyTrains, same, ← finish_eq]
  by_cases ended : c.takeExit.takePoints.deriveMode.deriveOutputs.leftMaint = true
  · rw [if_pos ended, if_pos (left.mp ended)]
  · rw [if_neg ended, if_neg fun x => ended (left.mpr x)]

end Ctx

end Sys2Proof.Machine
end

section
/-! PROOFS. A point's entry, event and report follow the one notice that an event gives of it (R113, R116, R118, R121). -/

namespace Sys2Proof.Machine

/-! ## Arising and going -/

theorem FaultEntry.arise_isSome (e : FaultEntry) (now : Time) (cause : Option Cause) (flag : Bool)
    (h : e.state = .healthy ∨ e.state = .clearedUnacked) : ∃ e', e.arise now cause flag = some e' := by
  obtain h | h := h <;> simp [FaultEntry.arise, h]

/-- R113's arising, with R118's flag. -/
theorem FaultEntry.arise_spec (e e' : FaultEntry) (now : Time) (cause : Option Cause) (flag : Bool)
    (h : e.arise now cause flag = some e') :
    e'.state = .faulty ∧ e'.count = (if e.count < 255 then e.count + 1 else 255) ∧
    e'.firstRaised = (if e.state = .healthy then some now else e.firstRaised) ∧ e'.lastChange = some now ∧
    e'.cause = cause ∧ (e'.inMaint = true ↔ e.inMaint = true ∨ (flag = true ∧ e.state = .healthy)) := by
  have count : min 255 (e.count + 1) = if e.count < 255 then e.count + 1 else 255 := by split <;> omega
  cases state : e.state <;> simp only [FaultEntry.arise, state, Option.some.injEq, reduceCtorEq] at h <;> subst h <;>
    simp [count, or_comm]

theorem FaultEntry.go_isSome (e : FaultEntry) (now : Time) (h : e.state = .faulty ∨ e.state = .faultyAcked) :
    ∃ e', e.go now false = some e' := by
  obtain h | h := h <;> simp [FaultEntry.go, h]

/-- R113's going. -/
theorem FaultEntry.go_spec (e e' : FaultEntry) (now : Time) (h : e.go now false = some e') :
    e' = { e with state := if e.state = .faulty then .clearedUnacked else .healthy, lastChange := some now } := by
  cases state : e.state <;> simp_all [FaultEntry.go]

/-! ## A changed point at the end of its event -/

/-- A changed point is reported, and unflagged when its event ends maintenance. -/
def PointView.settle (v : PointView) (p : Point) (ended : Bool) : PointView :=
  if ended then (v.report p).unflag p else v.report p

/-- The in-maintenance flag keeps the point's report back (R118). -/
def FaultEntry.hushed (e : FaultEntry) (ended : Bool) : Bool := e.inMaint && (!ended || e.state == .healthy)

theorem PointView.settle_spec (v : PointView) (p : Point) (ended : Bool) : v.settle p ended =
    ⟨{ v.entry with inMaint := v.entry.inMaint && !ended }, v.present,
      if v.entry.hushed ended then v.reports else sendReport (faultContent p v.entry) false v.reports⟩ := by
  obtain ⟨entry, present, reports⟩ := v
  obtain ⟨state, count, first, last, cause, flag⟩ := entry
  cases flag with
  | false => cases ended <;> rfl
  | true =>
    cases ended with
    | false => rfl
    | true => cases state <;> rfl

theorem PointView.unflag_present (v : PointView) (p : Point) : (v.unflag p).present = v.present := by
  simp only [PointView.unflag, PointView.report]
  repeat' split
  all_goals rfl

section Settled

variable {s t : State} {p : Point} {e : FaultEntry} {b ended : Bool}

/-- R118: which reports of a changed point are kept back. -/
theorem pointHushed_iff (left : ended = true ↔ LeftMaintenance s t)
    (entry : t.flt.table[p] = { e with inMaint := e.inMaint && !ended })
    (flag : e.state = .healthy → e.inMaint = (s.flt.table[p]).inMaint) : PointHushed s t p ↔ e.hushed ended = true := by
  simp only [PointHushed, entry, ← left, FaultEntry.hushed]
  cases ended with
  | false => simp
  | true =>
    simp only [Bool.not_true, Bool.and_false, Bool.false_eq_true, false_or, true_and, Bool.and_eq_true, Bool.false_or,
      beq_iff_eq]
    exact ⟨fun ⟨flagged, healthy⟩ => ⟨flag healthy ▸ flagged, healthy⟩, fun ⟨flagged, healthy⟩ =>
      ⟨flag healthy ▸ flagged, healthy⟩⟩

/-- The report of a changed point (R116, R123, R124). -/
theorem pointReported_of_settle (left : ended = true ↔ LeftMaintenance s t)
    (view : t.view p = PointView.settle ⟨e, b, (s.view p).reports⟩ p ended)
    (flag : e.state = .healthy → e.inMaint = (s.flt.table[p]).inMaint) (places : PlacesKept s.queue t.queue) :
    PointReported s t p := by
  rw [PointView.settle_spec] at view
  have entry : t.flt.table[p] = { e with inMaint := e.inMaint && !ended } := congrArg PointView.entry view
  have reports : t.queue.filter (Entry.ofPoint p) = if e.hushed ended then s.queue.filter (Entry.ofPoint p)
      else sendReport (faultContent p e) false (s.queue.filter (Entry.ofPoint p)) := congrArg PointView.reports view
  have content : faultContent p t.flt.table[p] = faultContent p e := by rw [entry]; rfl
  have hushed := pointHushed_iff left entry flag
  refine ⟨fun h => ?_, fun h none => ?_, fun h x one => ?_, places⟩
  · rw [reports, if_pos (hushed.mp h)]
  · rw [reports, if_neg fun x => h (hushed.mpr x), none, sendReport_fault_nil, content]
  · have own : x.ofPoint p = true := (List.mem_filter.mp (one ▸ List.mem_singleton_self x)).2
    rw [reports, if_neg fun x => h (hushed.mpr x), one, sendReport_fault_singleton _ _ _ _ own, content]

end Settled

/-! ## The notice of an event -/

theorem HeadOrSec.ne_link {p : Point} (h : HeadOrSec p) : p ≠ fpLink := by
  rintro rfl
  exact absurd h.2 (by decide)

theorem Ctx.point_of_noticesOf {c : Ctx} {p : Point} {n : Notice} (h : c.noticesOf p = [n]) : n.point = p := by
  have there : n ∈ c.noticesOf p := by rw [h]; exact List.mem_singleton_self n
  exact beq_iff_eq.mp (List.mem_filter.mp there).2

/-- The work of an event on a state before its end: it has staged events, asked for train reports, and left the fault
points and the queue alone. -/
structure Ctx.WorksOn (s : State) (c : Ctx) : Prop where
  flt : c.s.flt = s.flt
  queue : c.s.queue = s.queue
  bus : s.bus.Grows c.s.bus
  leftMaint : c.leftMaint = false
  trains : c.TrainReports

namespace Ctx.WorksOn

variable {s : State} {c : Ctx} {p : Point} (work : WorksOn s c) (hp : HeadOrSec p)
include work hp

/-- A point of which the event gives no notice stays present or absent. -/
theorem finish_present_none (none : c.noticesOf p = []) : c.finish.s.flt.present[p] = s.flt.present[p] := by
  have view := c.finish_view p hp.ne_link work.leftMaint work.trains
  have same : c.takeExit.s.view p = s.view p :=
    State.view_congr (by rw [← work.flt]; simp) (by rw [← work.queue]; simp) p
  rw [takePoints_view_none _ _ ((c.takeExit_calm.notices p hp).trans none), same] at view
  rw [← State.view_present, view, ← State.view_present]
  split
  · exact PointView.unflag_present _ _
  · rfl

/-- The one notice of a point is taken in a state that shows the point as the event found it. -/
theorem takes_one {n : Notice} (one : c.noticesOf p = [n]) : ∃ a : Ctx, a.s.view p = s.view p ∧
    a.s.flt.mode = s.flt.mode ∧ a.s.now = c.finish.s.now ∧ s.bus.Grows a.s.bus ∧
    (a.takeNotice n).s.bus.Grows c.finish.s.bus ∧ PlacesKept s.queue c.finish.s.queue ∧
    c.finish.s.view p = if s.flt.mode = .maintenance ∧ c.finish.s.flt.mode ≠ .maintenance
      then ((a.takeNotice n).s.view p).unflag p else (a.takeNotice n).s.view p := by
  obtain ⟨a, takes, view⟩ := c.takeExit.takePoints_view_one p n ((c.takeExit_calm.notices p hp).trans one)
  have whole := c.finish_reports
  have flt : c.takeExit.s.flt = s.flt := by simp [work.flt]
  have queue : c.takeExit.s.queue = s.queue := by simp [work.queue]
  refine ⟨a, takes.view.trans (State.view_congr flt queue p), takes.mode.trans (by rw [flt]), takes.now.trans (by simp),
    (work.bus.trans c.takeExit_calm.bus).trans takes.before.bus, takes.after.bus.trans whole.bus, ?_, ?_⟩
  · rw [← queue]
    exact (takes.before.places.trans (Reports.takeNotice a n).places).trans (takes.after.places.trans whole.places)
  · rw [c.finish_view p hp.ne_link work.leftMaint work.trains, work.flt, view]

theorem finish_present_one {n : Notice} (one : c.noticesOf p = [n]) : c.finish.s.flt.present[p] = n.present := by
  obtain ⟨a, -, -, -, -, -, -, view⟩ := work.takes_one hp one
  have notice : (a.takeNotice n).s.flt.present[p] = n.present := by
    rw [takeNotice_present, if_pos (point_of_noticesOf one)]
  rw [← State.view_present, view, ← notice, ← State.view_present]
  split
  · exact PointView.unflag_present _ _
  · rfl

/-- A notice that changes a point with an arising or a going: the point settles with its new entry, and its event is
staged unless the queue is full. -/
theorem finish_changed {n : Notice} (one : c.noticesOf p = [n]) (change : s.flt.present[p] ≠ n.present) {e : FaultEntry}
    (arisesOrGoes : (if n.present then (s.flt.table[p]).arise c.finish.s.now n.cause (s.flt.mode == .maintenance)
      else (s.flt.table[p]).go c.finish.s.now false) = some e) :
    ∃ ended : Bool, (ended = true ↔ LeftMaintenance s c.finish.s) ∧
      c.finish.s.view p = PointView.settle ⟨e, n.present, (s.view p).reports⟩ p ended ∧
      PlacesKept s.queue c.finish.s.queue ∧
      StagedOrFull s c.finish.s (if n.present then .faultRaised p (s.flt.table[p]).state e.state e.count e.cause
        else .faultCleared p (s.flt.table[p]).state e.state e.count) := by
  obtain ⟨a, same, mode, now, before, after, places, view⟩ := work.takes_one hp one
  obtain rfl := point_of_noticesOf one
  have table : a.s.flt.table[n.point] = s.flt.table[n.point] := by
    rw [← State.view_entry, same, State.view_entry]
  have present : a.s.flt.present[n.point] = s.flt.present[n.point] := by
    rw [← State.view_present, same, State.view_present]
  have noLink : (n.point == fpLink) = false := beq_eq_false_iff_ne.mpr hp.ne_link
  have entry : a.noticedEntry n = some e := by
    rw [noticedEntry, table, mode, now, noLink, bne, noLink]
    simpa using arisesOrGoes
  have taken := a.takeNotice_changed n (present ▸ change)
  simp only [entry] at taken
  rw [taken] at after view
  rw [changePoint_bus] at after
  rw [changePoint_view _ _ _ _ _ hp.ne_link, same] at view
  have event : a.noticedEvent n e = if n.present then .faultRaised n.point (s.flt.table[n.point]).state e.state e.count e.cause
      else .faultCleared n.point (s.flt.table[n.point]).state e.state e.count := by rw [noticedEvent, table]
  refine ⟨decide (s.flt.mode = .maintenance ∧ c.finish.s.flt.mode ≠ .maintenance), decide_eq_true_iff, ?_, places, ?_⟩
  · rw [view, PointView.settle]
    simp only [decide_eq_true_eq]
  · exact event ▸ stagedOrFull_of_stage s c.finish.s a.s.bus _ before (now ▸ after)

/-- A point follows the notice that the event gives of it, if any, with the notice's cause when it arises. -/
theorem pointFollows {cause : Option Cause}
    (given : c.noticesOf p = [] ∨ ∃ n, c.noticesOf p = [n] ∧ (n.present = true → n.cause = cause)) :
    PointFollows s c.finish.s p cause := by
  obtain none | ⟨n, one, caused⟩ := given
  · have same := work.finish_present_none hp none
    exact ⟨fun absent present => absurd (present.symm.trans (same.trans absent)) (by simp),
      fun present absent => absurd (present.symm.trans (same.symm.trans absent)) (by simp)⟩
  · have last := work.finish_present_one hp one
    constructor
    · intro absent present state
      have arisen : n.present = true := last.symm.trans present
      obtain ⟨e, arises⟩ := FaultEntry.arise_isSome (s.flt.table[p]) c.finish.s.now n.cause (s.flt.mode == .maintenance) state
      obtain ⟨faulty, count, first, lastChange, causes, flag⟩ := FaultEntry.arise_spec _ _ _ _ _ arises
      obtain ⟨ended, left, view, places, event⟩ := work.finish_changed hp one (by simp [absent, arisen])
        (e := e) (by rw [if_pos arisen]; exact arises)
      have entry := congrArg PointView.entry (view.trans (PointView.settle_spec _ _ _))
      rw [State.view_entry] at entry
      rw [if_pos arisen, faulty, causes, caused arisen] at event
      refine ⟨⟨?_, ?_, ?_, ?_, ?_, ?_⟩, pointReported_of_settle left view (by simp [faulty]) places, ?_⟩
      · rw [entry]; exact faulty
      · rw [entry]; exact count
      · rw [entry]; exact first
      · rw [entry]; exact lastChange
      · rw [entry]; exact causes.trans (caused arisen)
      · rw [entry, ← left]
        simp [flag, and_comm]
      · rw [entry]; exact event
    · intro present absent state
      have gone : n.present = false := last.symm.trans absent
      obtain ⟨e, goes⟩ := FaultEntry.go_isSome (s.flt.table[p]) c.finish.s.now state
      have spec := FaultEntry.go_spec _ _ _ goes
      obtain ⟨ended, left, view, places, event⟩ := work.finish_changed hp one (by simp [present, gone])
        (e := e) (by rw [if_neg (by simp [gone])]; exact goes)
      have entry := congrArg PointView.entry (view.trans (PointView.settle_spec _ _ _))
      rw [State.view_entry] at entry
      rw [if_neg (by simp [gone])] at event
      refine ⟨⟨?_, ?_, ?_⟩, pointReported_of_settle left view (fun _ => by rw [spec]) places, ?_⟩
      · rw [entry, spec]
      · rw [entry, spec]
      · rw [entry, spec, ← left]
        simp [and_comm]
      · rw [entry]; exact event

end Ctx.WorksOn

end Sys2Proof.Machine
end

section
/-! PROOFS. The take of an outcome as a whole: its notices, the sections it disturbs, and the movement it forms (R16 to R22). -/

namespace Sys2Proof.Machine

/-! ## The cause of a change of head state -/

/-- The cause that HEAD_STATE carries is the one R16 gives. -/
theorem OutcomeRec.cause_of_causedBy (o : OutcomeRec) (c : HeadCause) (h : CausedBy o c) : o.cause = c := by
  cases reply : o.reply with
  | none => cases c <;> simp_all [CausedBy, OutcomeRec.cause]
  | some g =>
    have implausible : o.implausible = (o.judged g && !o.plausible g) := by simp [OutcomeRec.implausible, reply]
    cases c with
    | silent | garbled | wrongHead | broken => simp only [CausedBy] at h; simp [OutcomeRec.cause, h]
    | sensorFault =>
      simp only [CausedBy, reply] at h
      simp [OutcomeRec.cause, h.1, reply, h.2]
    | implausible =>
      simp only [CausedBy, reply] at h
      obtain ⟨good, ok, serves, far⟩ := h
      have judged := (o.judged_iff g).mpr ⟨ok, serves⟩
      have verdict := mt (o.plausible_iff g).mp far
      simp [OutcomeRec.cause, good, reply, ok, implausible, judged, verdict]
    | good =>
      simp only [CausedBy, reply] at h
      obtain ⟨good, ok, near⟩ := h
      have verdict : ¬ (o.judged g = true ∧ o.plausible g = false) := fun ⟨judged, far⟩ => by
        rw [(o.plausible_iff g).mpr (near ((o.judged_iff g).mp judged).2)] at far
        exact Bool.noConfusion far
      simp only [OutcomeRec.cause, good, reply, ok, implausible, Bool.and_eq_true, Bool.not_eq_true', Bool.false_eq_true,
        if_false, if_neg verdict]

/-! ## What the head's part of a take adds -/

/-- The notice of the head's condition that a take gives: at an entry to FAILED and at leaving it (R16). -/
def State.headNotice (s : State) (o : OutcomeRec) : List Notice :=
  if (s.takenRec o).state = (s.line.recs[o.head]).state then []
  else if (s.takenRec o).state = .failed then [⟨headPoint o.head, true, some (.head o.cause)⟩]
  else if (s.line.recs[o.head]).state = .failed then [⟨headPoint o.head, false, none⟩]
  else []

theorem State.headNotice_filter (s : State) (o : OutcomeRec) (p : Point) :
    (s.headNotice o).filter (fun n => n.point == p) = if headPoint o.head = p then s.headNotice o else [] := by
  simp only [State.headNotice]
  by_cases here : headPoint o.head = p
  · rw [if_pos here]
    repeat' split
    all_goals simp [here]
  · rw [if_neg here]
    repeat' split
    all_goals simp [here]

/-- HEAD_STATE is the take's first event, at a change of state alone (R16). -/
theorem Ctx.takeHead_spec (c : Ctx) (o : OutcomeRec) :
    (c.takeHead o).notices = c.notices ++ c.s.headNotice o ∧ (c.takeHead o).demands = c.demands ∧
    (c.takeHead o).leftMaint = c.leftMaint ∧ (c.takeHead o).trains = c.trains ∧
    (c.takeHead o).s.bus = if (c.s.takenRec o).state = (c.s.line.recs[o.head]).state then c.s.bus
      else c.s.bus.stage c.s.now (.headState o.head (c.s.line.recs[o.head]).state (c.s.takenRec o).state o.cause) := by
  unfold Ctx.takeHead State.headNotice State.takenRec
  dsimp only
  split
  · exact ⟨(List.append_nil _).symm, rfl, rfl, rfl, rfl⟩
  · split
    · exact ⟨rfl, rfl, rfl, rfl, rfl⟩
    · split
      · exact ⟨rfl, rfl, rfl, rfl, rfl⟩
      · exact ⟨(List.append_nil _).symm, rfl, rfl, rfl, rfl⟩

theorem Ctx.takeHead_continues (c : Ctx) (o : OutcomeRec) : c.Continues (c.takeHead o) := by
  obtain ⟨-, -, left, trains, bus⟩ := c.takeHead_spec o
  refine ⟨?_, left, fun reports => by simpa only [Ctx.TrainReports, trains] using reports⟩
  rw [bus]
  split
  · exact .refl _
  · exact Bus.grows_stage _ _ _

/-- The notices of a take's head, of which there are none before it. -/
theorem Ctx.takeHead_noticesOf (s : State) (o : OutcomeRec) (p : Point) :
    ((Ctx.start s).takeHead o).noticesOf p = if headPoint o.head = p then s.headNotice o else [] := by
  rw [Ctx.noticesOf, (Ctx.takeHead_spec _ o).1]
  exact s.headNotice_filter o p

/-! ## What the sections' part of a take does -/

/-- A plausible reply shows a rising edge of HALF (R21). -/
def OutcomeRec.EdgeShown (o : OutcomeRec) : Prop :=
  ∃ g, o.reply = some g ∧ o.judged g = true ∧ o.plausible g = true ∧ g.halfEdge = true

/-- The reason for which a take disturbs the bounding sections of its head, if it does (R21, R22). -/
def State.disturbReason (s : State) (o : OutcomeRec) : Option Reason :=
  if s.headFails o then some (if o.implausible then .implausible else .headFailed)
  else match o.reply with
    | some g => if o.judged g && o.plausible g && g.halfEdge then some .halfWheel else none
    | none => none

theorem State.disturbReason_of_fails (s : State) (o : OutcomeRec) (h : s.headFails o = true) :
    s.disturbReason o = some (if o.implausible then .implausible else .headFailed) := if_pos h

theorem State.disturbReason_of_edge (s : State) (o : OutcomeRec) (h : s.headFails o = false) (edge : o.EdgeShown) :
    s.disturbReason o = some .halfWheel := by
  obtain ⟨g, reply, judged, plausible, half⟩ := edge
  simp [State.disturbReason, h, reply, judged, plausible, half]

theorem State.disturbReason_none (s : State) (o : OutcomeRec) (h : s.headFails o = false) (edge : ¬ o.EdgeShown) :
    s.disturbReason o = none := by
  simp only [State.disturbReason, h, Bool.false_eq_true, if_false]
  split
  · next g reply =>
    refine if_neg fun shown => edge ⟨g, reply, ?_⟩
    simpa [and_assoc] using shown
  · rfl

theorem Ctx.takeSections_disturbs (s : State) (c : Ctx) (o : OutcomeRec) (why : Reason)
    (h : s.disturbReason o = some why) :
    c.takeSections o (s.headFails o) = c.disturbAll (boundingSecs o.head) why o.head := by
  by_cases fails : s.headFails o = true
  · rw [s.disturbReason_of_fails o fails] at h
    obtain rfl := Option.some.inj h
    simp only [Ctx.takeSections, fails, if_true]
    rfl
  · have fails : s.headFails o = false := Bool.eq_false_iff.mpr fails
    have edge : o.EdgeShown := Classical.byContradiction fun noEdge => by
      simp [s.disturbReason_none o fails noEdge] at h
    rw [s.disturbReason_of_edge o fails edge] at h
    obtain rfl := Option.some.inj h
    obtain ⟨g, reply, judged, plausible, half⟩ := edge
    simp only [Ctx.takeSections, fails, reply, judged, plausible, half, Bool.and_self, Bool.false_eq_true, if_false, if_true]
    rfl

/-- Put a movement in the hand-over. -/
def Ctx.setMovement (c : Ctx) (m : Option Movement) : Ctx :=
  c.map fun s => { s with secs := { s.secs with movement := m } }

theorem Ctx.takeSections_moves (s : State) (c : Ctx) (o : OutcomeRec) (g : GoodReply) (fails : s.headFails o = false)
    (reply : o.reply = some g) (judged : o.judged g = true) (plausible : o.plausible g = true)
    (half : g.halfEdge = false) : c.takeSections o (s.headFails o) = c.setMovement (o.movement g) := by
  simp only [Ctx.takeSections, fails, reply, judged, plausible, half, Bool.and_self, Bool.false_eq_true, if_false, if_true]
  rfl

/-- Without a plausible verdict a head that stays in service leaves sections and hand-over alone. -/
theorem Ctx.takeSections_keeps (s : State) (c : Ctx) (o : OutcomeRec) (fails : s.headFails o = false)
    (unjudged : ∀ g, o.reply = some g → (o.judged g && o.plausible g) = false) :
    c.takeSections o (s.headFails o) = c := by
  simp only [Ctx.takeSections, fails, Bool.false_eq_true, if_false]
  split
  · rfl
  · next g reply => rw [unjudged g reply]; rfl

/-- A take that disturbs no section works on the hand-over alone. -/
theorem Ctx.takeSections_calm (s : State) (c : Ctx) (o : OutcomeRec) (h : s.disturbReason o = none) :
    ∃ m, c.takeSections o (s.headFails o) = c.setMovement m := by
  have fails : s.headFails o = false := Classical.byContradiction fun fails => by
    simp [s.disturbReason_of_fails o (eq_true_of_ne_false fails)] at h
  by_cases verdict : ∃ g, o.reply = some g ∧ (o.judged g && o.plausible g) = true
  · obtain ⟨g, reply, verdict⟩ := verdict
    have half : g.halfEdge = false := Classical.byContradiction fun half => by
      simp [State.disturbReason, fails, reply, verdict, half] at h
    obtain ⟨judged, plausible⟩ := Bool.and_eq_true_iff.mp verdict
    exact ⟨_, c.takeSections_moves s o g fails reply judged plausible half⟩
  · exact ⟨c.s.secs.movement, c.takeSections_keeps s o fails fun g reply =>
      Bool.eq_false_iff.mpr fun shown => verdict ⟨g, reply, shown⟩⟩

/-! ## The whole take -/

section Take

variable (s : State) (o : OutcomeRec)

/-- A section bounds a head once. -/
theorem boundingSecs_filter (h : Head) (i : Sec) :
    (boundingSecs h).filter (fun j => j = i) = if i ∈ boundingSecs h then [i] else [] := by
  revert h i
  decide

theorem State.takeWork_continues : ((Ctx.start s).takeHead o).Continues (s.takeWork o) := by
  unfold State.takeWork
  cases reason : s.disturbReason o with
  | some why => exact Ctx.takeSections_disturbs s _ o why reason ▸ Ctx.disturbAll_continues _ _ _ _
  | none =>
    obtain ⟨m, moved⟩ := Ctx.takeSections_calm s ((Ctx.start s).takeHead o) o reason
    exact moved ▸ ⟨.refl _, rfl, id⟩

/-- The notices of a section that a take gives. -/
theorem State.takeWork_noticesOf_sec (i : Sec) : (s.takeWork o).noticesOf (secPoint i) =
    match s.disturbReason o with
    | some why => if i ∈ boundingSecs o.head then [disturbedNotice i why] else []
    | none => [] := by
  have head : ((Ctx.start s).takeHead o).noticesOf (secPoint i) = [] := by
    rw [Ctx.takeHead_noticesOf, if_neg (headPoint_ne_secPoint _ _)]
  unfold State.takeWork
  cases reason : s.disturbReason o with
  | some why =>
    have only : (boundingSecs o.head).filter (fun j => secPoint j = secPoint i) =
        if i ∈ boundingSecs o.head then [i] else [] := by
      simp only [secPoint_injective.eq_iff]
      exact boundingSecs_filter o.head i
    rw [Ctx.takeSections_disturbs s _ o why reason, Ctx.disturbAll_noticesOf _ _ _ _ _ (headOrSec_secPoint i), head, only]
    dsimp only
    split <;> rfl
  | none =>
    obtain ⟨m, moved⟩ := Ctx.takeSections_calm s ((Ctx.start s).takeHead o) o reason
    rw [moved]
    exact head

theorem State.takeWork_noticesOf_head (h : Head) :
    (s.takeWork o).noticesOf (headPoint h) = if h = o.head then s.headNotice o else [] := by
  have head : ((Ctx.start s).takeHead o).noticesOf (headPoint h) = if h = o.head then s.headNotice o else [] := by
    rw [Ctx.takeHead_noticesOf]
    simp only [headPoint_injective.eq_iff, eq_comm]
  unfold State.takeWork
  cases reason : s.disturbReason o with
  | some why =>
    have no : (boundingSecs o.head).filter (fun j => secPoint j = headPoint h) = [] :=
      List.filter_eq_nil_iff.mpr fun j _ => by simpa using (headPoint_ne_secPoint h j).symm
    rw [Ctx.takeSections_disturbs s _ o why reason, Ctx.disturbAll_noticesOf _ _ _ _ _ (headOrSec_headPoint h), head, no]
    simp
  | none =>
    obtain ⟨m, moved⟩ := Ctx.takeSections_calm s ((Ctx.start s).takeHead o) o reason
    rw [moved]
    exact head

/-- A take's work up to the end of its event. -/
def State.takeClosed : Ctx := (s.takeWork o).closeTracker s.trk

theorem State.takeClosed_calm : (s.takeWork o).Calm (s.takeClosed o) := .closeTracker (.refl _)

theorem State.takeClosed_continues : ((Ctx.start s).takeHead o).Continues (s.takeClosed o) :=
  (s.takeWork_continues o).trans (s.takeClosed_calm o).toContinues

theorem State.takeClosed_worksOn : (s.takeClosed o).WorksOn s := by
  have all := ((Ctx.start s).takeHead_continues o).trans (s.takeClosed_continues o)
  exact ⟨by simp [State.takeClosed, State.takeWork], by simp [State.takeClosed, State.takeWork], all.bus, all.leftMaint,
    all.trains fun _ hx => absurd hx List.not_mem_nil⟩

theorem State.takeClosed_noticesOf_sec (i : Sec) : (s.takeClosed o).noticesOf (secPoint i) =
    match s.disturbReason o with
    | some why => if i ∈ boundingSecs o.head then [disturbedNotice i why] else []
    | none => [] :=
  ((s.takeClosed_calm o).notices _ (headOrSec_secPoint i)).trans (s.takeWork_noticesOf_sec o i)

theorem State.takeClosed_noticesOf_head (h : Head) :
    (s.takeClosed o).noticesOf (headPoint h) = if h = o.head then s.headNotice o else [] :=
  ((s.takeClosed_calm o).notices _ (headOrSec_headPoint h)).trans (s.takeWork_noticesOf_head o h)

theorem State.afterTake_eq : s.afterTake o = (s.takeClosed o).finish.s := rfl

/-! ### Sections -/

theorem State.afterTake_table (i : Sec) : (s.afterTake o).secs.table[i] =
    match s.disturbReason o with
    | some why => if i ∈ boundingSecs o.head then .disturbed why else s.secs.table[i]
    | none => s.secs.table[i] := by
  have before : ((Ctx.start s).takeHead o).s.secs = s.secs := by simp
  rw [State.afterTake_secs, State.takeWork]
  cases reason : s.disturbReason o with
  | some why => rw [Ctx.takeSections_disturbs s _ o why reason, Ctx.disturbAll_table, before]
  | none =>
    obtain ⟨m, moved⟩ := Ctx.takeSections_calm s ((Ctx.start s).takeHead o) o reason
    rw [moved, ← before]
    rfl

theorem State.afterTake_movement_of_disturbs (why : Reason) (reason : s.disturbReason o = some why) :
    (s.afterTake o).secs.movement = s.secs.movement := by
  rw [State.afterTake_secs, State.takeWork, Ctx.takeSections_disturbs s _ o why reason, Ctx.disturbAll_movement]
  simp

/-- The wheels are gone from the sections that the take disturbs (R46). -/
theorem State.afterTake_wheels (why : Reason) (reason : s.disturbReason o = some why) (i : Sec)
    (bounding : i ∈ boundingSecs o.head) : (s.afterTake o).trk.NoWheels i := by
  have dropped : (s.takeWork o).s.trk.NoWheels i := by
    rw [State.takeWork, Ctx.takeSections_disturbs s _ o why reason]
    exact Ctx.disturbAll_wheels _ _ _ _ i bounding
  have closed : (s.takeClosed o).s.trk.NoWheels i := dropped.of_thins ((s.takeWork o).closeTracker_thins s.trk)
  rw [State.afterTake_eq]
  exact closed.of_thins (s.takeClosed o).finish_thins

/-- The demands of the sections that the take disturbs stand (R31). -/
theorem State.afterTake_demand (why : Reason) (reason : s.disturbReason o = some why) (i : Sec)
    (bounding : i ∈ boundingSecs o.head) : ((s.afterTake o).seq.demands.get (.section_ i)).isSome = true := by
  have asked : (s.takeWork o).demands = (boundingSecs o.head).map fun i => (.section_ i, true) := by
    rw [State.takeWork, Ctx.takeSections_disturbs s _ o why reason, Ctx.disturbAll_demands, (Ctx.takeHead_spec _ o).2.1]
    rfl
  have finished : (s.afterTake o).seq.demands = (s.takeClosed o).s.seq.demands := by
    simp [State.afterTake_eq, Ctx.finish]
  rw [finished]
  exact (s.takeWork o).closeTracker_demands s.trk _ asked i bounding

/-- The conditions of the sections that the take disturbs are present (R32). -/
theorem State.afterTake_condition (why : Reason) (reason : s.disturbReason o = some why) (i : Sec)
    (bounding : i ∈ boundingSecs o.head) : (s.afterTake o).flt.present[secPoint i] = true := by
  have one : (s.takeClosed o).noticesOf (secPoint i) = [disturbedNotice i why] := by
    rw [State.takeClosed_noticesOf_sec, reason]
    exact if_pos bounding
  rw [State.afterTake_eq]
  exact (s.takeClosed_worksOn o).finish_present_one (headOrSec_secPoint i) one

theorem mem_allSecs (i : Sec) : i ∈ allSecs := by revert i; decide

/-- A section's condition makes the mode FAILED outside TEST (R119). -/
theorem modeOf_of_section (q : Sequence) (f : Faults) (i : Sec) (outside : q.state ≠ .test)
    (present : f.present[secPoint i] = true) : modeOf q f = .failed := by
  have failed : failedConditions f = true := by
    have any : (allSecs.any fun i => f.present[secPoint i]) = true :=
      List.any_eq_true.mpr ⟨i, mem_allSecs i, present⟩
    simp only [failedConditions, any, Bool.or_true, Bool.true_or]
  simp only [modeOf, outside, failed, if_false, if_true]

theorem State.afterTake_disturbed (why : Reason) (reason : s.disturbReason o = some why) (i : Sec)
    (bounding : i ∈ boundingSecs o.head) : DisturbedIn (s.afterTake o) i why where
  entry := by rw [State.afterTake_table, reason]; exact if_pos bounding
  wheels := (s.afterTake_wheels o why reason i bounding).liveRecs
  demand := s.afterTake_demand o why reason i bounding
  condition := s.afterTake_condition o why reason i bounding
  mode := fun outside => by
    have condition := s.afterTake_condition o why reason i bounding
    rw [State.afterTake_eq] at outside condition ⊢
    rw [Ctx.finish_mode]
    exact modeOf_of_section _ _ i outside condition

/-! ### The head -/

theorem State.headFails_iff : s.headFails o = true ↔
    (s.line.recs[o.head]).state ≠ .failed ∧ ((s.afterTake o).line.recs[o.head]).state = .failed := by
  rw [State.afterTake_head]
  simp only [State.headFails, Bool.and_eq_true, beq_iff_eq, bne_iff_ne]
  exact and_comm

/-- A plausible reply leaves its head ACTIVE (R11). -/
theorem State.headFails_of_plausible (g : GoodReply) (before : o.stateBefore = (s.line.recs[o.head]).state)
    (reply : o.reply = some g) (judged : o.judged g = true) (plausible : o.plausible g = true) : s.headFails o = false := by
  obtain ⟨ok, serves⟩ := (o.judged_iff g).mp judged
  have verdict : o.implausible = false := by simp [OutcomeRec.implausible, reply, plausible]
  have stored : s.takenRec o = ((s.line.recs[o.head]).store g).keep g o.kind := by
    rw [State.takenRec, HeadRec.take_good _ _ _ _ reply, HeadRec.good_serving _ _ _ ok (before ▸ serves), verdict]
    rfl
  rw [State.headFails, stored]
  rfl

/-- The head's condition after a take: it arises when the head enters FAILED and goes when it leaves it (R16). -/
theorem State.afterTake_headCondition : (s.afterTake o).flt.present[headPoint o.head] =
    if (s.takenRec o).state = (s.line.recs[o.head]).state then s.flt.present[headPoint o.head]
    else if (s.takenRec o).state = .failed then true
    else if (s.line.recs[o.head]).state = .failed then false
    else s.flt.present[headPoint o.head] := by
  have notices := s.takeClosed_noticesOf_head o o.head
  rw [if_pos rfl] at notices
  have work := s.takeClosed_worksOn o
  have point := headOrSec_headPoint o.head
  unfold State.headNotice at notices
  rw [State.afterTake_eq]
  split
  · next same => rw [if_pos same] at notices; exact work.finish_present_none point notices
  · next change =>
    rw [if_neg change] at notices
    split
    · next failed => rw [if_pos failed] at notices; exact work.finish_present_one point notices
    · next serving =>
      rw [if_neg serving] at notices
      split
      · next was => rw [if_pos was] at notices; exact work.finish_present_one point notices
      · next was => rw [if_neg was] at notices; exact work.finish_present_none point notices

theorem State.afterTake_otherHeadCondition (h : Head) (other : h ≠ o.head) :
    (s.afterTake o).flt.present[headPoint h] = s.flt.present[headPoint h] := by
  have none := s.takeClosed_noticesOf_head o h
  rw [if_neg other] at none
  rw [State.afterTake_eq]
  exact (s.takeClosed_worksOn o).finish_present_none (headOrSec_headPoint h) none

theorem State.afterTake_headEvent (change : (s.takenRec o).state ≠ (s.line.recs[o.head]).state) :
    Staged s (s.afterTake o) [.headState o.head (s.line.recs[o.head]).state (s.takenRec o).state o.cause] := by
  obtain ⟨-, -, -, -, first⟩ := Ctx.takeHead_spec (Ctx.start s) o
  rw [Ctx.start_state, if_neg change] at first
  have now : (s.takeClosed o).finish.s.now = s.now := by simp [State.takeClosed, State.takeWork]
  have later := (s.takeClosed_continues o).bus.trans (s.takeClosed o).finish_grows
  rw [first, ← now] at later
  rw [State.afterTake_eq]
  exact staged_of_stage _ _ _ later

theorem State.afterTake_headPoint : PointFollows s (s.afterTake o) (headPoint o.head) (some (.head o.cause)) := by
  rw [State.afterTake_eq]
  refine (s.takeClosed_worksOn o).pointFollows (headOrSec_headPoint _) ?_
  rw [State.takeClosed_noticesOf_head, if_pos rfl, State.headNotice]
  repeat' split
  all_goals simp

theorem State.afterTake_secPoint (i : Sec) :
    PointFollows s (s.afterTake o) (secPoint i) (((s.afterTake o).secs.table[i]).reason.map .section_) := by
  rw [State.afterTake_table, State.afterTake_eq]
  refine (s.takeClosed_worksOn o).pointFollows (headOrSec_secPoint i) ?_
  rw [State.takeClosed_noticesOf_sec]
  cases s.disturbReason o with
  | none => exact Or.inl rfl
  | some why =>
    dsimp only
    split
    · exact Or.inr ⟨_, rfl, fun _ => rfl⟩
    · exact Or.inl rfl

end Take

end Sys2Proof.Machine
end

section
/-! PROOFS. The obligations on a take's sections: SENSOR_FAULT, disturbances and movements. -/

namespace Sys2Proof.Machine

/-- Settles O11: a SENSOR_FAULT fails the head record, and disturbs its sections as any failure of a head. -/
theorem sensorFaultFailsHead : Obligations.SensorFaultFailsHead := by
  intro s o g ready reply fault
  refine ⟨_, execOutcomeTake_of_ready s o ready, ?_⟩
  obtain ⟨-, -, empty⟩ := ready
  have unjudged : o.judged g = false := by simp [OutcomeRec.judged, fault]
  have noEdge : ¬ o.EdgeShown := by
    rintro ⟨g', reply', judged, -⟩
    obtain rfl := Option.some.inj (reply.symm.trans reply')
    exact Bool.noConfusion (unjudged.symm.trans judged)
  have plain : o.implausible = false := by simp [OutcomeRec.implausible, reply, unjudged]
  have taken : (s.afterTake o).line.recs[o.head] = ((s.line.recs[o.head]).good g true).keep g o.kind := by
    rw [State.afterTake_head, State.takenRec, HeadRec.take_good _ _ _ _ reply, plain]
    rfl
  obtain ⟨failed, goodCount, failCount, heldAB, heldBA⟩ := HeadRec.good_sensorFault s.line.recs[o.head] g true fault
  have fails : s.headFails o = true ↔ (s.line.recs[o.head]).state ≠ .failed := by
    rw [State.headFails_iff, taken]
    exact and_iff_left failed
  rw [taken]
  refine ⟨failed, goodCount, failCount, heldAB, heldBA, rfl, rfl, ?_⟩
  by_cases was : (s.line.recs[o.head]).state = .failed
  · have reason := s.disturbReason_none o (Bool.eq_false_iff.mpr fun x => fails.mp x was) noEdge
    refine ⟨?_, fun i => by rw [State.afterTake_table, reason, if_neg fun x => x.1 was]⟩
    have kept := ((Ctx.start s).takeHead o).takeSections_keeps s o (Bool.eq_false_iff.mpr fun x => fails.mp x was)
      fun g' reply' => by rw [← Option.some.inj (reply.symm.trans reply'), unjudged]; rfl
    rw [State.afterTake_secs, State.takeWork, kept]
    simpa using empty
  · have reason : s.disturbReason o = some .headFailed := by
      rw [s.disturbReason_of_fails o (fails.mpr was), plain]
      rfl
    refine ⟨(s.afterTake_movement_of_disturbs o _ reason).trans empty, fun i => ?_⟩
    rw [State.afterTake_table, reason]
    simp only [was, not_false_eq_true, ne_eq, true_and]
    rfl

/-- A rising edge of HALF in a plausible reply of a head that serves (R21). -/
theorem OutcomeRec.edgeShown_iff (o : OutcomeRec) : o.EdgeShown ↔ ∃ g, o.reply = some g ∧ g.sensorFault = false ∧
    (o.stateBefore = .active ∨ o.stateBefore = .missing) ∧
    ((g.ab - o.heldAB).toNat ≤ 64 ∧ (g.ba - o.heldBA).toNat ≤ 64) ∧ g.halfNow = true ∧ g.halfBefore = false := by
  simp only [OutcomeRec.EdgeShown, OutcomeRec.judged_iff, OutcomeRec.plausible_iff, GoodReply.halfEdge, Bool.and_eq_true,
    Bool.not_eq_true', and_assoc]

theorem OutcomeRec.implausible_iff_far (o : OutcomeRec) : o.implausible = true ↔
    ∃ g, o.reply = some g ∧ g.sensorFault = false ∧ (o.stateBefore = .active ∨ o.stateBefore = .missing) ∧
      ¬ ((g.ab - o.heldAB).toNat ≤ 64 ∧ (g.ba - o.heldBA).toNat ≤ 64) := by
  simp only [OutcomeRec.implausible_iff, OutcomeRec.judged_iff, ← OutcomeRec.plausible_iff, Bool.not_eq_true, and_assoc]

/-- The sections that a take disturbs, and those that it leaves (R21, R22). -/
theorem take_disturbs_sections (s : State) (o : OutcomeRec) (ready : TakeReady s o)
    (before : o.stateBefore = (s.line.recs[o.head]).state) :
    (s.headFails o = true → (s.afterTake o).secs.movement = none ∧ ∀ i ∈ boundingSecs o.head,
      (o.implausible = true → DisturbedIn (s.afterTake o) i .implausible) ∧
      (¬ o.implausible = true → DisturbedIn (s.afterTake o) i .headFailed)) ∧
    (o.EdgeShown → (s.afterTake o).secs.movement = none ∧ ∀ i ∈ boundingSecs o.head,
      DisturbedIn (s.afterTake o) i .halfWheel) ∧
    ∀ i : Sec, i ∉ boundingSecs o.head ∨ (¬ s.headFails o = true ∧ ¬ o.EdgeShown) →
      (s.afterTake o).secs.table[i] = s.secs.table[i] := by
  obtain ⟨-, -, empty⟩ := ready
  refine ⟨fun fails => ?_, fun edge => ?_, fun i spared => ?_⟩
  · have reason := s.disturbReason_of_fails o fails
    refine ⟨(s.afterTake_movement_of_disturbs o _ reason).trans empty, fun i bounding => ⟨fun far => ?_, fun near => ?_⟩⟩
    · exact s.afterTake_disturbed o _ (by rw [reason, if_pos far]) i bounding
    · exact s.afterTake_disturbed o _ (by rw [reason, if_neg near]) i bounding
  · have serves : s.headFails o = false := by
      obtain ⟨g, reply, judged, plausible, -⟩ := edge
      exact s.headFails_of_plausible o g before reply judged plausible
    have reason := s.disturbReason_of_edge o serves edge
    exact ⟨(s.afterTake_movement_of_disturbs o _ reason).trans empty, s.afterTake_disturbed o _ reason⟩
  · rw [State.afterTake_table]
    cases reason : s.disturbReason o with
    | none => rfl
    | some why =>
      refine if_neg fun bounding => ?_
      obtain away | ⟨serves, noEdge⟩ := spared
      · exact away bounding
      · rw [s.disturbReason_none o (Bool.eq_false_iff.mpr serves) noEdge] at reason
        cases reason

/-- The one movement of a plausible reply (R20). -/
theorem take_forms_movement (s : State) (o : OutcomeRec) (g : GoodReply)
    (before : o.stateBefore = (s.line.recs[o.head]).state) (reply : o.reply = some g) (judged : o.judged g = true)
    (plausible : o.plausible g = true) (half : g.halfEdge = false) :
    (s.afterTake o).secs = { s.secs with movement := o.movement g } := by
  have serves := s.headFails_of_plausible o g before reply judged plausible
  have secs : ((Ctx.start s).takeHead o).s.secs = s.secs := by simp
  rw [State.afterTake_secs, State.takeWork, Ctx.takeSections_moves s _ o g serves reply judged plausible half, ← secs]
  rfl

/-- Settles O13: the sections by the reason of the take, the movement by its deltas, and the points by their notices. -/
theorem takeDisturbsSectionsOrFormsMovement : Obligations.TakeDisturbsSectionsOrFormsMovement := by
  refine ⟨fun s o ready before => ?_, fun s o g ready reply ok before serves ab ba noEdge => ?_, fun s o ready => ?_⟩
  · refine ⟨_, execOutcomeTake_of_ready s o ready, ?_⟩
    have disturbs := take_disturbs_sections s o ready before
    rw [State.headFails_iff, OutcomeRec.edgeShown_iff, OutcomeRec.implausible_iff_far] at disturbs
    exact disturbs
  · have secs := take_forms_movement s o g before reply ((o.judged_iff g).mpr ⟨ok, serves⟩)
      ((o.plausible_iff g).mpr ⟨ab, ba⟩) (by simpa [GoodReply.halfEdge] using noEdge)
    exact ⟨_, execOutcomeTake_of_ready s o ready, by rw [secs], by rw [secs]; rfl⟩
  · refine ⟨_, execOutcomeTake_of_ready s o ready, ?_⟩
    have condition := s.afterTake_headCondition o
    rw [State.afterTake_head]
    refine ⟨fun change c caused => ?_, fun serving failed => ?_, fun was serving => ?_, fun same => ?_, fun c caused => ?_,
      s.afterTake_secPoint o, s.afterTake_otherHeadCondition o⟩
    · rw [← o.cause_of_causedBy c caused]
      exact s.afterTake_headEvent o change
    · rw [condition, if_neg (by rw [failed]; exact Ne.symm serving), if_pos failed]
    · rw [condition, if_neg (by rw [was]; exact serving), if_neg serving, if_pos was]
    · rw [condition]
      split
      · rfl
      · next change =>
        split
        · next failed => exact absurd (failed.trans (same.mpr failed).symm) change
        · next serving => exact if_neg fun was => serving (same.mp was)
    · rw [← o.cause_of_causedBy c caused]
      exact s.afterTake_headPoint o

end Sys2Proof.Machine
end

section
/-! PROOFS. Records at the end of an event, and the demand a settled record holds (03_the_approach_list.md,
04_arrival_prediction.md): the deadline and the prediction grace. -/

namespace Sys2Proof.Machine

/-! ## Records at the end of an event -/

/-- A record without what the driver's indicators show on it (R97), which the end of every event derives again. -/
def TrainRec.unshown (r : TrainRec) : TrainRec :=
  { r with proceedShown := false, proceedTime := none, restartDue := none }

theorem TrainRec.showProceed_unshown (r : TrainRec) (k : Track) (lit : Bool) (now timeout : Nat) :
    (r.showProceed k lit now timeout).unshown = r.unshown := by
  simp only [TrainRec.showProceed]
  repeat' split
  all_goals rfl

/-- Records that differ in what is shown on them alone hold the same registers elsewhere. -/
theorem TrainRec.fields_of_unshown {r r' : TrainRec} (h : r'.unshown = r.unshown) :
    r'.status = r.status ∧ r'.seq = r.seq ∧ r'.graceOn = r.graceOn ∧ r'.predicted = r.predicted ∧
    r'.speedUnknown = r.speedUnknown ∧ r'.deadline = r.deadline :=
  ⟨congrArg (·.status) h, congrArg (·.seq) h, congrArg (·.graceOn) h, congrArg (·.predicted) h,
    congrArg (·.speedUnknown) h, congrArg (·.deadline) h⟩

theorem Ctx.modRec_same (c : Ctx) (i : Slot) (f : TrainRec → TrainRec) :
    (c.modRec i f).s.trk.recs[i] = (c.s.trk.recs[i]).map f := upd_same _ _ _

theorem Ctx.modRec_other (c : Ctx) (i j : Slot) (f : TrainRec → TrainRec) (h : j ≠ i) :
    (c.modRec i f).s.trk.recs[j] = c.s.trk.recs[j] := upd_other _ _ _ _ h

/-- A change of one record keeps what it keeps of that record of every record. -/
theorem Ctx.modRec_keeps {β : Type} (get : TrainRec → β) (c : Ctx) (i j : Slot) (f : TrainRec → TrainRec)
    (h : ∀ r, get (f r) = get r) : ((c.modRec i f).s.trk.recs[j]).map get = (c.s.trk.recs[j]).map get := by
  by_cases same : j = i
  · subst same
    rw [Ctx.modRec_same, Option.map_map]
    exact congrArg (Option.map · _) (funext h)
  · rw [Ctx.modRec_other _ _ _ _ same]

theorem Ctx.deriveIndicator_unshown (c : Ctx) (k : Track) (j : Slot) :
    ((c.deriveIndicator k).s.trk.recs[j]).map TrainRec.unshown = (c.s.trk.recs[j]).map TrainRec.unshown := by
  simp only [Ctx.deriveIndicator]
  refine (Ctx.forEach_keeps (fun c => (c.s.trk.recs[j]).map TrainRec.unshown) _
    (fun c i => c.modRec_keeps _ i j _ fun r => r.showProceed_unshown k _ _ _) _ _).trans ?_
  simp

/-- The end of an event changes of a record at most what is shown on it. -/
theorem Ctx.finish_unshown (c : Ctx) (j : Slot) :
    (c.finish.s.trk.recs[j]).map TrainRec.unshown = (c.s.trk.recs[j]).map TrainRec.unshown := by
  simp only [Ctx.finish, Ctx.closeReports_frame]
  refine (Ctx.forEach_keeps (fun c => (c.s.trk.recs[j]).map TrainRec.unshown) _
    (fun c k => c.deriveIndicator_unshown k j) _ _).trans ?_
  simp

theorem Ctx.finish_record (c : Ctx) (j : Slot) (r : TrainRec) (h : c.s.trk.recs[j] = some r) :
    ∃ r', c.finish.s.trk.recs[j] = some r' ∧ r'.unshown = r.unshown := by
  have kept := c.finish_unshown j
  rwa [h, Option.map_some, Option.map_eq_some_iff] at kept

/-! ## The demand of a settled record -/

theorem TrainRec.holdsDemand_of_approaching (r : TrainRec) (h : r.status = .approaching) : r.holdsDemand = r.reached := by
  simp [TrainRec.holdsDemand, h]

/-- The demand of a slot's record is asked for, or its going (R54). -/
theorem Ctx.syncDemand_of_record (c : Ctx) (i : Slot) (r : TrainRec) (h : c.s.trk.recs[i] = some r) :
    c.syncDemand i = c.demand (.record i) r.holdsDemand := by
  simp only [Ctx.syncDemand, h]

/-- The opening check of a deadline notice leaves the demand set alone. -/
theorem Ctx.settleRecord_demands (c : Ctx) (old : Option TrainRec) (i : Slot) :
    (c.settleRecord old i).s.seq.demands = (c.syncDemand i).s.seq.demands := by
  simp only [Ctx.settleRecord]
  split <;> simp

/-- A settled record's demand stands exactly when the record holds one (R54). -/
theorem Ctx.settleRecord_stands (c : Ctx) (old : Option TrainRec) (i : Slot) (r : TrainRec) (h : c.s.trk.recs[i] = some r) :
    ((c.settleRecord old i).s.seq.demands.get (.record i)).isSome = r.holdsDemand := by
  rw [Ctx.settleRecord_demands, c.syncDemand_of_record i r h, Ctx.demand_stands, if_pos rfl]

/-- A settled record that holds a demand has it from now, or from the time it was raised before (R73). -/
theorem Ctx.settleRecord_raised (c : Ctx) (old : Option TrainRec) (i : Slot) (r : TrainRec) (h : c.s.trk.recs[i] = some r)
    (holds : r.holdsDemand = true) : (c.settleRecord old i).s.seq.demands.get (.record i) =
      some ((c.s.seq.demands.get (.record i)).getD c.s.now) := by
  rw [Ctx.settleRecord_demands, c.syncDemand_of_record i r h, holds, Ctx.demand, if_pos rfl, Ctx.raise_demands]
  cases before : c.s.seq.demands.get (.record i) with
  | none => simp [DemandSet.get_set]
  | some x => simpa using before

theorem Ctx.enterAmber_state (c : Ctx) : c.enterAmber.s.seq.state = .amber := by
  simp only [Ctx.enterAmber, Ctx.modSeq_fields, Ctx.setRoad_keeps, Ctx.changeTo]
  repeat' split
  all_goals rfl

/-- The first demand takes an OPEN crossing to AMBER (R78). -/
theorem Ctx.raise_amber (c : Ctx) (k : DemandKey) (opened : c.s.seq.state = .opened) (new : c.s.seq.demands.get k = none) :
    (c.raise k).s.seq.state = .amber := by
  simp [Ctx.raise, new, opened, Ctx.enterAmber_state]

/-- The opening check acts in CLOSED alone (R89). -/
theorem Ctx.openingCheck_elsewhere (c : Ctx) (h : c.s.seq.state ≠ .closed) : c.openingCheck = c := by
  simp [Ctx.openingCheck, openingPasses, h]

/-- The demand of a settled record takes an OPEN crossing to AMBER (R78). -/
theorem Ctx.settleRecord_amber (c : Ctx) (old : Option TrainRec) (i : Slot) (r : TrainRec) (h : c.s.trk.recs[i] = some r)
    (holds : r.holdsDemand = true) (opened : c.s.seq.state = .opened) (new : c.s.seq.demands.get (.record i) = none) :
    (c.settleRecord old i).s.seq.state = .amber := by
  have amber : (c.syncDemand i).s.seq.state = .amber := by
    rw [c.syncDemand_of_record i r h, holds, Ctx.demand, if_pos rfl, c.raise_amber _ opened new]
  simp only [Ctx.settleRecord]
  split
  · rwa [Ctx.openingCheck_elsewhere _ (by rw [amber]; decide)]
  · exact amber

/-- The end of an event that settles a record: the record and its demand (R54, R73, R78). -/
theorem Ctx.settleRecord_finish (c : Ctx) (old : Option TrainRec) (i : Slot) (r : TrainRec) (exit : c.exit = none)
    (rec : c.s.trk.recs[i] = some r) :
    ∃ r', (c.settleRecord old i).finish.s.trk.recs[i] = some r' ∧ r'.unshown = r.unshown ∧
      ((c.settleRecord old i).finish.s.seq.demands.get (.record i)).isSome = r.holdsDemand ∧
      (r.holdsDemand = true →
        (c.settleRecord old i).finish.s.seq.demands.get (.record i) =
          some ((c.s.seq.demands.get (.record i)).getD c.s.now) ∧
        (c.s.seq.state = .opened → c.s.seq.demands.get (.record i) = none →
          (c.settleRecord old i).finish.s.seq.state = .amber)) := by
  obtain ⟨state, -, demands, -⟩ := Ctx.finish_keeps (c.settleRecord old i) (by simpa using exit)
  obtain ⟨r', final, same⟩ := (c.settleRecord old i).finish_record i r (by simpa using rec)
  refine ⟨r', final, same, ?_, fun holds => ⟨?_, fun opened new => ?_⟩⟩
  · rw [demands, c.settleRecord_stands old i r rec]
  · rw [demands, c.settleRecord_raised old i r rec holds]
  · rw [state, c.settleRecord_amber old i r rec holds opened new]

/-- A record of an event's start, changed. -/
theorem Ctx.modRec_start (s : State) (i : Slot) (f : TrainRec → TrainRec) (r : TrainRec) (h : s.trk.recs[i] = some r) :
    ((Ctx.start s).modRec i f).s.trk.recs[i] = some (f r) := by
  rw [Ctx.modRec_same, Ctx.start_state, h, Option.map_some]

/-! ## The deadline and the prediction grace -/

theorem execDeadlineExpiry_of_due (s : State) (i : Slot) (r : TrainRec) (d : Time) (runs : s.running = true)
    (rec : s.trk.recs[i] = some r) (deadline : r.deadline = some ⟨d, false⟩) (due : d < Config.runEnd) :
    exec (.deadlineExpiry i) s = .next ((((Ctx.start { s with now := max s.now d }).modRec i
      fun r => { r with deadline := some ⟨d, true⟩ }).settleRecord (some r) i).finish.s) := by
  simp only [exec, execDeadlineExpiry, State.whenRunning_of_running _ _ runs, rec, deadline, Bool.false_eq_true, if_false,
    State.onExpiry_of_lt _ _ _ due, State.event]

/-- A deadline that is reached keeps its time, and the demand of an APPROACHING record is raised (R54, R67, R78). -/
theorem deadlineExpiry_raises (s : State) (i : Slot) (r : TrainRec) (d : Time) (runs : s.running = true)
    (rec : s.trk.recs[i] = some r) (deadline : r.deadline = some ⟨d, false⟩) (due : d < Config.runEnd) :
    ∃ t, exec (.deadlineExpiry i) s = .next t ∧ t.now = max s.now d ∧ ∃ r', t.trk.recs[i] = some r' ∧
      r'.deadline = some ⟨d, true⟩ ∧ r'.status = r.status ∧ r'.predicted = r.predicted ∧
      (r.status = .approaching →
        (s.seq.demands.get (.record i) = none → t.seq.demands.get (.record i) = some t.now) ∧
        (∀ x, s.seq.demands.get (.record i) = some x → t.seq.demands.get (.record i) = some x) ∧
        (s.seq.state = .opened → s.seq.demands.get (.record i) = none → t.seq.state = .amber)) := by
  refine ⟨_, execDeadlineExpiry_of_due s i r d runs rec deadline due, by simp, ?_⟩
  obtain ⟨r', final, same, -, raised⟩ := Ctx.settleRecord_finish _ (some r) i _ (by simp [Ctx.start])
    (Ctx.modRec_start { s with now := max s.now d } i (fun r => { r with deadline := some ⟨d, true⟩ }) r rec)
  obtain ⟨status, -, -, predicted, -, reached⟩ := TrainRec.fields_of_unshown same
  refine ⟨r', final, reached, status, predicted, fun approaching => ?_⟩
  obtain ⟨demand, amber⟩ := raised (TrainRec.holdsDemand_of_approaching _ approaching)
  refine ⟨fun new => ?_, fun x old => ?_, amber⟩
  · exact demand.trans (by simp [new])
  · exact demand.trans (by simp [old])

theorem execPredictionGraceExpiry_of_due (s : State) (i : Slot) (r : TrainRec) (x : Time) (runs : s.running = true)
    (rec : s.trk.recs[i] = some r) (grace : r.graceOn = true) (strikeIn : r.strikeIn = some x)
    (due : x + 250 < Config.runEnd) :
    exec (.predictionGraceExpiry i) s = .next (
      let c := (Ctx.start { s with now := max s.now (x + 250) }).modRec i fun r => { r with graceOn := false }
      if r.predicted = none ∧ r.speedUnknown = false then
        ((c.speedUnknown i (x + 250) .grace).settleRecord (some r) i).finish.s
      else c.finish.s) := by
  simp only [exec, execPredictionGraceExpiry, State.whenRunning_of_running _ _ runs, rec, grace, strikeIn, if_true,
    Option.map_some, Config.grace, State.onExpiry_of_lt _ _ _ due, Bool.not_eq_true', Option.getD_some,
    State.event]
  split <;> rfl

/-- A record marked speed-unknown with its deadline reached at a time (R61, R63, R68). -/
def TrainRec.marked (r : TrainRec) (t : Time) : TrainRec := { r.reachAt t with speedUnknown := true }

theorem TrainRec.marked_spec (r : TrainRec) (t : Time) :
    (r.marked t).status = r.status ∧ (r.marked t).seq = r.seq ∧ (r.marked t).graceOn = r.graceOn ∧
    (r.marked t).predicted = r.predicted ∧ (r.marked t).speedUnknown = true ∧
    (r.marked t).deadline = (if r.reached then r.deadline else some ⟨t, true⟩) ∧ (r.marked t).reached = true := by
  unfold TrainRec.marked TrainRec.reachAt
  split
  · next reached => exact ⟨rfl, rfl, rfl, rfl, rfl, rfl, reached⟩
  · exact ⟨rfl, rfl, rfl, rfl, rfl, rfl, rfl⟩

theorem Ctx.speedUnknown_record (c : Ctx) (i : Slot) (t : Time) (x : PredResult) (r : TrainRec) (h : c.s.trk.recs[i] = some r) :
    (c.speedUnknown i t x).s.trk.recs[i] = some (r.marked t) := by
  simp only [Ctx.speedUnknown, Ctx.stagePrediction_frame]
  rw [Ctx.modRec_same, h, Option.map_some]
  rfl

/-- The grace ends for a record; one without a prediction becomes speed-unknown with its deadline reached (R68). -/
theorem predictionGraceExpiry_ends_grace (s : State) (i : Slot) (r : TrainRec) (x : Time) (runs : s.running = true)
    (rec : s.trk.recs[i] = some r) (grace : r.graceOn = true) (strikeIn : r.strikeIn = some x)
    (due : x + 250 < Config.runEnd) :
    ∃ t, exec (.predictionGraceExpiry i) s = .next t ∧ t.now = max s.now (x + 250) ∧
      ∃ r', t.trk.recs[i] = some r' ∧ r'.graceOn = false ∧ r'.seq = r.seq ∧ r'.predicted = r.predicted ∧
      (r.predicted = none ∧ r.speedUnknown = false → r'.speedUnknown = true ∧
        r'.deadline = (if r.reached then r.deadline else some ⟨x + 250, true⟩) ∧
        (r.status = .approaching → (t.seq.demands.get (.record i)).isSome = true)) ∧
      (¬ (r.predicted = none ∧ r.speedUnknown = false) → r'.speedUnknown = r.speedUnknown ∧ r'.deadline = r.deadline) := by
  refine ⟨_, execPredictionGraceExpiry_of_due s i r x runs rec grace strikeIn due, ?_⟩
  have ended := Ctx.modRec_start { s with now := max s.now (x + 250) } i (fun r => { r with graceOn := false }) r rec
  by_cases unknown : r.predicted = none ∧ r.speedUnknown = false
  · simp only [if_pos unknown]
    obtain ⟨r', final, same, stands, -⟩ := Ctx.settleRecord_finish _ (some r) i _ (by simp [Ctx.start])
      (Ctx.speedUnknown_record _ i (x + 250) .grace _ ended)
    obtain ⟨-, seq', grace', predicted', unknown', deadline'⟩ := TrainRec.fields_of_unshown same
    obtain ⟨status, seq, graceOn, predicted, marked, deadline, reached⟩ :=
      ({ r with graceOn := false } : TrainRec).marked_spec (x + 250)
    refine ⟨by simp, r', final, grace'.trans graceOn, seq'.trans seq, predicted'.trans predicted,
      fun _ => ⟨unknown'.trans marked, deadline'.trans deadline, fun approaching => stands.trans ?_⟩,
      fun known => absurd unknown known⟩
    rw [TrainRec.holdsDemand_of_approaching _ (status.trans approaching), reached]
  · simp only [if_neg unknown]
    obtain ⟨r', final, same⟩ := Ctx.finish_record _ i _ ended
    obtain ⟨-, seq', grace', predicted', unknown', deadline'⟩ := TrainRec.fields_of_unshown same
    exact ⟨by simp, r', final, grace', seq', predicted', fun h => absurd h unknown,
      fun _ => ⟨unknown', deadline'⟩⟩

/-- Settles O18: the record of each timer as its work leaves it, and its demand as the settled record holds it. -/
theorem deadlineAndGraceRaiseDemands : Obligations.DeadlineAndGraceRaiseDemands :=
  ⟨deadlineExpiry_raises, predictionGraceExpiry_ends_grace⟩

end Sys2Proof.Machine
end

section
/-! PROOFS. The computation unit (04_arrival_prediction.md): its start, its result, and the record of a current result. -/

namespace Sys2Proof.Machine

/-! ## The unit and its queue -/

theorem Predictor.startNext_of_idle (p : Predictor) (now : Time) (q : Request) (qs : List Request) (idle : p.unit = none)
    (queue : p.queue = q :: qs) : p.startNext now = { p with unit := some ⟨q, now⟩, queue := qs } := by
  simp only [Predictor.startNext, idle, queue]

/-- A busy unit, or an empty queue, starts nothing (R64). -/
theorem Predictor.startNext_of_busy (p : Predictor) (now : Time) (h : p.unit.isSome = true ∨ p.queue = []) :
    p.startNext now = p := by
  unfold Predictor.startNext
  split
  · next idle queue => simp [idle, queue] at h
  · rfl

theorem execComputationStart_of_running (s : State) (runs : s.running = true) :
    exec .computationStart s = .next { s with pred := s.pred.startNext s.now } := by
  simp only [exec, execComputationStart, State.whenRunning_of_running _ _ runs]

theorem execComputationComplete_of_due (s : State) (u : Computing) (runs : s.running = true) (unit : s.pred.unit = some u)
    (due : u.start + 50 < Config.runEnd) : exec .computationComplete s =
      .next ((Ctx.start { s with now := max s.now (u.start + 50) }).complete u.req).finish.s := by
  simp only [exec, execComputationComplete, State.whenRunning_of_running _ _ runs, unit, Config.computation,
    State.onExpiry_of_lt _ _ _ due, State.event]

/-! ## The completion -/

/-- The unit without the computation it had (R64). -/
def Predictor.freed (p : Predictor) : Predictor := { p with unit := none }

def Ctx.freeUnit (c : Ctx) : Ctx := c.modPred Predictor.freed

@[simp] theorem Ctx.freeUnit_fields (c : Ctx) : c.freeUnit.s.now = c.s.now ∧ c.freeUnit.s.trk = c.s.trk ∧
    c.freeUnit.s.pred = c.s.pred.freed ∧ c.freeUnit.exit = c.exit := ⟨rfl, rfl, rfl, rfl⟩

theorem Request.isCurrent_iff (q : Request) (t : Tracker) :
    q.isCurrent t = true ↔ ∃ r, t.recs[q.slot] = some r ∧ r.gen = q.gen ∧ r.seq = q.seq := by
  simp [Request.isCurrent, Option.any_eq_true]

theorem Ctx.complete_current (c : Ctx) (q : Request) (current : q.isCurrent c.s.trk = true) :
    c.complete q = (c.freeUnit.applyResult q).modPred fun p => p.startNext (c.freeUnit.applyResult q).s.now := by
  have current : q.isCurrent c.freeUnit.s.trk = true := current
  exact congrArg (fun d : Ctx => d.modPred fun p => p.startNext d.s.now) (if_pos current)

theorem Ctx.complete_stale (c : Ctx) (q : Request) (stale : ¬ q.isCurrent c.s.trk = true) :
    c.complete q = (c.freeUnit.stage (.predictionStale q.slot q.gen q.seq)).modPred fun p =>
      p.startNext (c.freeUnit.stage (.predictionStale q.slot q.gen q.seq)).s.now := by
  have stale : ¬ q.isCurrent c.freeUnit.s.trk = true := stale
  exact congrArg (fun d : Ctx => d.modPred fun p => p.startNext d.s.now) (if_neg stale)

/-- Whatever the result, the freed unit takes the next request (R64). -/
theorem Ctx.complete_pred (c : Ctx) (q : Request) :
    (c.complete q).s.pred = c.s.pred.freed.startNext c.s.now := by
  by_cases current : q.isCurrent c.s.trk = true
  · simp [c.complete_current q current]
  · simp [c.complete_stale q current]

theorem Ctx.complete_unit_idle (c : Ctx) (q : Request) (empty : c.s.pred.queue = []) :
    (c.complete q).s.pred.unit = none ∧ (c.complete q).s.pred.queue = [] := by
  rw [Ctx.complete_pred, c.s.pred.freed.startNext_of_busy _ (Or.inr empty)]
  exact ⟨rfl, empty⟩

theorem Ctx.complete_unit_next (c : Ctx) (q next : Request) (qs : List Request) (queue : c.s.pred.queue = next :: qs) :
    (c.complete q).s.pred.unit = some ⟨next, c.s.now⟩ ∧ (c.complete q).s.pred.queue = qs := by
  rw [Ctx.complete_pred, c.s.pred.freed.startNext_of_idle _ next qs rfl queue]
  exact ⟨rfl, rfl⟩

/-! ## A current result -/

/-- What a result sets of a record: the predicted arrival, the speed-unknown mark and the deadline (R66). -/
def TrainRec.arrival (r : TrainRec) : Option Time × Bool × Option Deadline := (r.predicted, r.speedUnknown, r.deadline)

/-- An overdue time that has come leaves the prediction alone (R49). -/
theorem Ctx.overdue_record (c : Ctx) (i : Slot) (r : TrainRec) (h : c.s.trk.recs[i] = some r) :
    ∃ r', (c.overdue i).s.trk.recs[i] = some r' ∧ r'.arrival = r.arrival := by
  have same (x : TrainRec) : (c.setRec i (some x)).s.trk.recs[i] = some x := put_same _ _ _
  simp only [Ctx.overdue, h]
  split
  · split
    · exact ⟨_, same _, rfl⟩
    · split
      · exact ⟨r, h, rfl⟩
      · exact ⟨_, same _, rfl⟩
  · exact ⟨r, h, rfl⟩

/-- A result put into its record, with the demand of a deadline that it reaches (R66). -/
def Ctx.applied (c : Ctx) (q : Request) : Ctx :=
  ((c.modRec q.slot fun x => x.applyResult (q.replyTime + q.timeToArrival) c.s.now).stagePrediction q.slot .applied
    q.clamped).syncDemand q.slot

theorem Ctx.applyResult_eq (c : Ctx) (q : Request) : c.applyResult q =
    ((c.applied q).overdue q.slot).settleRecord c.s.trk.recs[q.slot] q.slot := rfl

theorem Ctx.applied_record (c : Ctx) (q : Request) (r : TrainRec) (h : c.s.trk.recs[q.slot] = some r) :
    (c.applied q).s.trk.recs[q.slot] = some (r.applyResult (q.replyTime + q.timeToArrival) c.s.now) := by
  simp only [Ctx.applied, Ctx.syncDemand_frame, Ctx.stagePrediction_frame]
  rw [Ctx.modRec_same, h, Option.map_some]

/-- A current result on its record: the prediction as R66's steps set it, and the demand as the record then holds it. -/
theorem Ctx.applyResult_record (c : Ctx) (q : Request) (r : TrainRec) (h : c.s.trk.recs[q.slot] = some r) :
    ∃ r', (c.applyResult q).s.trk.recs[q.slot] = some r' ∧
      r'.arrival = (r.applyResult (q.replyTime + q.timeToArrival) c.s.now).arrival ∧
      ((c.applyResult q).s.seq.demands.get (.record q.slot)).isSome = r'.holdsDemand := by
  obtain ⟨r', rec, arrival⟩ := (c.applied q).overdue_record q.slot _ (c.applied_record q r h)
  rw [Ctx.applyResult_eq]
  exact ⟨r', by simpa using rec, arrival, Ctx.settleRecord_stands _ _ _ _ rec⟩

/-- A completion with a current result, at the end of its event. -/
theorem Ctx.complete_record (c : Ctx) (q : Request) (r : TrainRec) (exit : c.exit = none)
    (rec : c.s.trk.recs[q.slot] = some r) (gen : r.gen = q.gen) (seq : r.seq = q.seq) :
    ∃ r', (c.complete q).finish.s.trk.recs[q.slot] = some r' ∧
      r'.arrival = (r.applyResult (q.replyTime + q.timeToArrival) c.s.now).arrival ∧
      (r'.status = .approaching →
        ((c.complete q).finish.s.seq.demands.get (.record q.slot)).isSome = r'.reached) := by
  obtain ⟨r₁, applied, arrival, stands⟩ := c.freeUnit.applyResult_record q r (by simpa using rec)
  have current := c.complete_current q ((q.isCurrent_iff _).mpr ⟨r, rec, gen, seq⟩)
  obtain ⟨r', final, same⟩ := (c.complete q).finish_record q.slot r₁ (by rw [current]; exact applied)
  obtain ⟨status, -, -, predicted, unknown, deadline⟩ := TrainRec.fields_of_unshown same
  obtain ⟨-, -, demands, -⟩ := Ctx.finish_keeps (c.complete q) (by simpa using exit)
  refine ⟨r', final, Eq.trans ?_ arrival, fun approaching => ?_⟩
  · simp only [TrainRec.arrival, predicted, unknown, deadline]
  · have kept : (c.complete q).s.seq = (c.freeUnit.applyResult q).s.seq := by rw [current]; rfl
    rw [demands, kept, stands, TrainRec.holdsDemand_of_approaching _ (status.symm.trans approaching)]
    simp only [TrainRec.reached, deadline]

/-- R66's steps 1 to 3: the prediction, and a candidate for a deadline not yet reached. -/
theorem TrainRec.fields_of_arrival (r r' : TrainRec) (p now : Time) (h : r'.arrival = (r.applyResult p now).arrival) :
    r'.predicted = some p ∧ r'.speedUnknown = false ∧ (r.reached = true → r'.deadline = r.deadline) ∧
    (r.reached = false → r'.deadline = some ⟨p - r.warning, decide (p - r.warning ≤ now)⟩) := by
  simp only [TrainRec.arrival, TrainRec.applyResult, Prod.mk.injEq] at h
  obtain ⟨predicted, unknown, deadline⟩ := h
  exact ⟨predicted, unknown, fun reached => by simpa [reached] using deadline,
    fun unreached => by simpa [unreached] using deadline⟩

/-- A stale result changes of no record more than what is shown on it (R65). -/
theorem Ctx.complete_stale_records (c : Ctx) (q : Request) (stale : ¬ q.isCurrent c.s.trk = true) (i : Slot) :
    ((c.complete q).finish.s.trk.recs[i]).map TrainRec.unshown = (c.s.trk.recs[i]).map TrainRec.unshown := by
  rw [Ctx.finish_unshown, c.complete_stale q stale]
  rfl

/-- Settles O19: the unit by its queue, the record of a current result, and the records that a stale one leaves. -/
theorem computationsGivePredictions : Obligations.ComputationsGivePredictions := by
  refine ⟨fun s u runs unit due => ?_, fun s runs => ?_⟩
  · refine ⟨_, execComputationComplete_of_due s u runs unit due, by simp, fun empty => ?_, fun q qs queue => ?_,
      fun r rec gen seq => ?_, fun stale i => ?_⟩
    · simpa only [Ctx.finish_frame] using Ctx.complete_unit_idle _ u.req empty
    · simpa only [Ctx.finish_frame, Ctx.complete_frame] using Ctx.complete_unit_next _ u.req q qs queue
    · obtain ⟨r', final, arrival, stands⟩ :=
        (Ctx.start { s with now := max s.now (u.start + 50) }).complete_record u.req r rfl rec gen seq
      obtain ⟨predicted, unknown, kept, candidate⟩ := TrainRec.fields_of_arrival _ _ _ _ arrival
      refine ⟨r', final, predicted, unknown, kept, fun unreached => ?_, stands⟩
      rw [candidate unreached]
      simp only [Ctx.finish_frame, Ctx.complete_frame]
      rfl
    · have old : ¬ u.req.isCurrent s.trk = true := fun current => by
        obtain ⟨r, rec, gen, seq⟩ := (u.req.isCurrent_iff _).mp current
        exact stale r rec ⟨gen, seq⟩
      have same := (Ctx.start { s with now := max s.now (u.start + 50) }).complete_stale_records u.req old i
      have shown := congrArg (Option.map fun r : TrainRec => (r.predicted, r.deadline, r.status)) same
      rw [Option.map_map, Option.map_map] at shown
      exact shown
  · refine ⟨fun idle q qs queue => ?_, fun busy => ?_⟩
    · rw [execComputationStart_of_running s runs, Predictor.startNext_of_idle _ _ q qs idle queue]
    · rw [execComputationStart_of_running s runs, Predictor.startNext_of_busy _ _ busy]

end Sys2Proof.Machine
end

section
/-! PROOFS. A signaller's command frame and its answer (08_the_signaller_link.md), and SET_WARNING (04_arrival_prediction.md,
R58, R60). -/

namespace Sys2Proof.Machine

/-! ## A whole command frame -/

@[simp] theorem Link.transmit_fields (l : Link) (frame : List Byte) (rate : Nat) :
    (l.transmit frame rate).timerDue = l.timerDue ∧ (l.transmit frame rate).lastWhole = l.lastWhole ∧
    (l.transmit frame rate).lost = l.lost ∧ (l.transmit frame rate).toggle = l.toggle := by
  unfold Link.transmit
  split <;> exact ⟨rfl, rfl, rfl, rfl⟩

/-- The link once a whole frame has ended: its timer runs from now, and it is up (R138, R151, R152). -/
def Link.wholeAt (l : Link) (now : Time) (timeout : Nat) : Link :=
  { l with timerDue := some (now + timeout), lastWhole := some now, lost := false, lostAt := none }

theorem Ctx.frameGood_link (c : Ctx) : c.frameGood.s.link = c.s.link.wholeAt c.s.now c.s.settings.linkTimeout := by
  simp only [Ctx.frameGood]
  split
  · simp only [Ctx.takePoints_frame, Ctx.notice_state, Ctx.stage_fields, Ctx.modLink_fields]
    rfl
  · rfl

/-- The answer of a command whose work leaves the link and the settings alone, STATUS with its summary apart (R138, R142). -/
theorem State.wholeCommand_link (s : State) (kind : Byte) (body : List Byte) (work : Ctx → Ctx × AnsResult)
    (other : kind ≠ kindStatus) (link : ∀ c, (work c).1.s.link = c.s.link)
    (settings : ∀ c, (work c).1.s.settings = c.s.settings) :
    (s.wholeCommand kind body work).link =
      ((s.link.wholeAt s.now s.settings.linkTimeout).transmit (linkFrame s.settings.address kindAnswer
        [kind, byte (work (Ctx.start s).frameGood).2.code, answerMask (work (Ctx.start s).frameGood).2 s.link])
        s.settings.rate).toHunt := by
  have taken := (Ctx.start s).frameGood_link
  simp only [State.wholeCommand, State.answer, State.reply, State.modLink_fields, State.stage_fields, Ctx.finish_frame,
    link, settings, taken, Ctx.frameGood_frame, Ctx.start_state, answerSummary, other, false_and, if_false, answerBody,
    List.append_nil]
  rfl

/-- A whole frame that ends in its answer. -/
theorem frameTaken_of_link (s t : State) (frame : List Byte)
    (h : t.link = ((s.link.wholeAt s.now s.settings.linkTimeout).transmit frame s.settings.rate).toHunt) :
    FrameTaken s t ∧ t.link.toggle = s.link.toggle ∧ Transmitted s t frame := by
  refine ⟨⟨?_, ?_, ?_, ?_, ?_⟩, ?_, ?_⟩
  case refine_7 =>
    simp only [Transmitted, h, Link.transmit, Link.wholeAt]
    cases s.link.sending <;> simp [Link.toHunt]
  all_goals simp [h, Link.toHunt, Link.wholeAt]

/-! ## Groups -/

theorem upd_eq_put {α : Type} {n : Nat} (v : Vector α n) (i : Fin n) (f : α → α) : upd v i f = put v i (f v[i]) := rfl

theorem execSetWarningGroup_of_running (s : State) (pos : Fin 4) (e : Byte) (w m : Word) (runs : s.running = true) :
    exec (.setWarningGroup pos e w m) s = .next (s.takeGroup pos e w m) := by
  simp only [exec, execSetWarningGroup, State.whenRunning_of_running _ _ runs]

/-- A group's entry, warning time and overdue margin are valid (R58, R60). -/
theorem groupApplies_iff (s : State) (e : Byte) (w m : Word) : groupApplies s e w m = true ↔
    e.toNat ≤ 3 ∧ s.settings.timers.sequenceMinimum ≤ 100 * w.toNat ∧ 100 * w.toNat ≤ 120000 ∧
      10000 ≤ 100 * m.toNat ∧ 100 * m.toNat ≤ 300000 := by
  simp only [groupApplies, inRange, Bool.and_eq_true, decide_eq_true_eq, and_assoc]

theorem State.takeGroup_applied (s : State) (pos n : Fin 4) (e : Byte) (w m : Word) (h : groupApplies s e w m = true)
    (names : entryIndex e = n) : s.takeGroup pos e w m = { s with
      pred := { s.pred with
        table := (put s.pred.table n ⟨(s.pred.table[n]).distance, 100 * w.toNat, 100 * m.toNat⟩) }
      link := { s.link with groups := put s.link.groups pos true } } := by
  subst names
  rw [State.takeGroup, if_pos h, upd_eq_put]

theorem State.takeGroup_rejected (s : State) (pos : Fin 4) (e : Byte) (w m : Word) (h : ¬ groupApplies s e w m = true) :
    s.takeGroup pos e w m = { s with link := { s.link with groups := put s.link.groups pos false } } := by
  rw [State.takeGroup, if_neg h]

theorem entry_of_index (n : Fin 4) : (byte n.val).toNat ≤ 3 ∧ entryIndex (byte n.val) = n := by
  revert n; decide

/-- A group touches the warning table and the groups' marks alone. -/
theorem sameOutside_takeGroup (s : State) (pos : Fin 4) (e : Byte) (w m : Word) :
    SameOutside [.pred, .link] s (s.takeGroup pos e w m) := by
  intro p outside
  cases p <;> simp_all [Part.same]

/-- A group that names an entry of the table (R60, R146). -/
theorem setWarningGroup_of_entry (s : State) (pos n : Fin 4) (w m : Word) (runs : s.running = true) :
    ∃ t, exec (.setWarningGroup pos (byte n.val) w m) s = .next t ∧ SameOutside [.pred, .link] s t ∧
      t.pred.queue = s.pred.queue ∧ t.pred.unit = s.pred.unit ∧
      (groupApplies s (byte n.val) w m = true →
        t.pred.table = put s.pred.table n ⟨(s.pred.table[n]).distance, 100 * w.toNat, 100 * m.toNat⟩ ∧
        t.link = { s.link with groups := put s.link.groups pos true }) ∧
      (¬ groupApplies s (byte n.val) w m = true →
        t.pred = s.pred ∧ t.link = { s.link with groups := put s.link.groups pos false }) := by
  refine ⟨_, execSetWarningGroup_of_running s pos _ w m runs, sameOutside_takeGroup s pos _ w m, ?_⟩
  by_cases applies : groupApplies s (byte n.val) w m = true
  · rw [State.takeGroup_applied s pos n _ w m applies (entry_of_index n).2]
    exact ⟨rfl, rfl, fun _ => ⟨rfl, rfl⟩, fun rejected => absurd applies rejected⟩
  · rw [State.takeGroup_rejected _ _ _ _ _ applies]
    exact ⟨rfl, rfl, fun applied => absurd applied applies, fun _ => ⟨rfl, rfl⟩⟩

/-! ## The answer to SET_WARNING -/

theorem groupLength_of_groups (n : Nat) (least : 1 ≤ n) (most : n ≤ 4) : groupLength (6 * n) = true := by
  simp only [groupLength, Bool.or_eq_true, beq_iff_eq]
  omega

theorem firstGroups_iff (g : Vector Bool 4) (n : Nat) :
    (g.toList.take n).all (· == true) = true ↔ ∀ i : Fin 4, i.val < n → g[i] = true := by
  simp only [List.all_eq_true, beq_iff_eq, List.mem_take_iff_getElem, Vector.length_toList]
  constructor
  · intro all i first
    exact all _ ⟨i.val, by omega, by simp⟩
  · rintro all _ ⟨i, first, rfl⟩
    simpa using all ⟨i, by omega⟩ (by simp only; omega)

/-- ACCEPTED when every group of the frame was applied, and PARTIAL otherwise (R148). -/
theorem setWarningWork_result (body : List Byte) (c : Ctx) (n : Nat) (least : 1 ≤ n) (most : n ≤ 4)
    (length : body.length = 6 * n) :
    ((∀ i : Fin 4, i.val < n → c.s.link.groups[i] = true) → (setWarningWork body c).2 = .accepted) ∧
    ((∃ i : Fin 4, i.val < n ∧ c.s.link.groups[i] = false) → (setWarningWork body c).2 = .partial_) := by
  have count : 6 * n / 6 = n := by omega
  simp only [setWarningWork, length, groupLength_of_groups n least most, if_true, groupsResult, count]
  refine ⟨fun all => if_pos ((firstGroups_iff _ _).mpr all), ?_⟩
  rintro ⟨i, first, rejected⟩
  refine if_neg fun all => ?_
  exact Bool.noConfusion (rejected.symm.trans ((firstGroups_iff _ _).mp all i first))

theorem execSetWarning_of_running (s : State) (body : List Byte) (runs : s.running = true) :
    exec (.setWarning body) s = .next (s.wholeCommand kindSetWarning body (setWarningWork body)) := by
  simp only [exec, execSetWarning, State.whenRunning_of_running _ _ runs]

/-- A SET_WARNING whose groups have been taken, and its answer (R146, R148). -/
theorem setWarning_answers (s : State) (body : List Byte) (n : Nat) (runs : s.running = true) (least : 1 ≤ n)
    (most : n ≤ 4) (length : body.length = 6 * n) :
    ∃ t, exec (.setWarning body) s = .next t ∧ FrameTaken s t ∧ t.pred = s.pred ∧
      ((∀ i : Fin 4, i.val < n → s.link.groups[i] = true) → Answered s t kindSetWarning .accepted) ∧
      ((∃ i : Fin 4, i.val < n ∧ s.link.groups[i] = false) →
        Transmitted s t (linkFrame s.settings.address kindAnswer [kindSetWarning, 4, groupsByte s.link.groups])) := by
  have answered := s.wholeCommand_link kindSetWarning body (setWarningWork body) (by decide) (fun _ => rfl) fun _ => rfl
  have groups : (Ctx.start s).frameGood.s.link.groups = s.link.groups := by rw [Ctx.frameGood_link]; rfl
  have result := setWarningWork_result body (Ctx.start s).frameGood n least most length
  rw [groups] at result
  obtain ⟨taken, toggle, sent⟩ := frameTaken_of_link _ _ _ answered
  refine ⟨_, execSetWarning_of_running s body runs, taken, ?_, fun all => ⟨taken, toggle, ?_⟩, fun some => ?_⟩
  · simp [State.wholeCommand, State.answer, State.reply, setWarningWork]
  · rwa [result.1 all] at sent
  · rwa [result.2 some] at sent

/-- Settles O37: a valid group by its entry, any other by its mark, and the whole frame by its answer. -/
theorem setWarningAppliesValidGroups : Obligations.SetWarningAppliesValidGroups := by
  refine ⟨fun s pos n w m runs => ?_, fun s pos e w m runs beyond => ?_, setWarning_answers⟩
  · have valid := groupApplies_iff s (byte n.val) w m
    rw [and_iff_right (entry_of_index n).1] at valid
    rw [← Timers.sequenceMinimum, ← valid]
    exact setWarningGroup_of_entry s pos n w m runs
  · have rejected : ¬ groupApplies s e w m = true := fun applies =>
      absurd ((groupApplies_iff s e w m).mp applies).1 (by omega)
    rw [execSetWarningGroup_of_running s pos e w m runs, State.takeGroup_rejected _ _ _ _ _ rejected]

end Sys2Proof.Machine
end

section
/-! PROOFS. The report queue's allotments (07_reports.md), and the fetch that has no window to advance in. -/

namespace Sys2Proof.Machine

/-! ## A fetch without a window -/

/-- A host report that waits. -/
def hostReport (n : Nat) : Entry := ⟨.host 0 [0x41] n 0, .alert, none, false⟩

/-- A valid outbox record: INFO, of one byte. -/
def infoRecord : List Byte := [2, 1, 0, 0, 0x41] ++ List.replicate 27 0

/-- Three HOST entries are queued, and the Reader fetches a fourth record with no OUTBOX window in force. -/
def windowless : State := { State.reset with
  pending := [.outboxFetchComplete infoRecord]
  running := true
  queue := [hostReport 0, hostReport 1, hostReport 2]
  bus := { Bus.reset with
    port := some ⟨.outbox, ⟨0x20, false, 32, []⟩⟩
    outbox := ⟨3, 4, .fetching, false⟩ } }

theorem windowless_reportsFit : ReportsFit windowless :=
  ⟨by decide, by decide, by decide, by decide, by decide, by decide⟩

/-- The record joins as the fourth HOST entry, and with no window the Reader neither advances nor leaves FETCHING. -/
theorem windowless_step : step windowless = .next { windowless with
    pending := []
    queue := windowless.queue ++ [⟨hostContent infoRecord 3 0, .info, none, false⟩] } := rfl

/-- Refutes O60: a Reader that is FETCHING with no OUTBOX window takes the fourth HOST record and stays FETCHING, with no
room left for a record being fetched. R130 starts a fetch only where a window exists, but `ReportsFit` does not say so of
a Reader that is FETCHING, and the statement takes every state that `ReportsFit` admits. -/
theorem not_reportQueueKept : ¬ Obligations.ReportQueueKept := by
  unfold Obligations.ReportQueueKept
  intro kept
  have fit := kept windowless _ windowless_reportsFit windowless_step
  exact absurd (fit.fetching rfl) (by decide)

end Sys2Proof.Machine
end

section
/-! PROOFS. The Outbox Reader (07_reports.md): a fetch's start, its completion and the consumer write, and what an apply
has discarded. -/

namespace Sys2Proof.Machine

/-! ## Claims made while an access is in progress -/

/-- While the port is busy a claim takes the claimant's place and nothing is granted. -/
theorem Bus.claim_of_busy (b : Bus) (w : Claimant) (a : MemAccess) (busy : b.port.isSome = true) :
    b.claim w a = b.setClaim w (some ⟨a, 0⟩) := by
  simp [Bus.claim, Bus.grant, busy]

theorem Bus.claim_port_of_busy (b : Bus) (w : Claimant) (a : MemAccess) (busy : b.port.isSome = true) :
    (b.claim w a).port = b.port := by
  simp [b.claim_of_busy w a busy]

/-- A claim made in a completion event outlasts the release of the port (R163). -/
theorem Bus.claim_release_claims (b : Bus) (w : Claimant) (a : MemAccess) (internal : w ≠ .upstream)
    (busy : b.port.isSome = true) : Claims (b.claim w a).release w a := by
  have claimed : (b.setClaim w (some ⟨a, 0⟩)).claimOf w = some ⟨a, 0⟩ := by
    rw [Bus.claimOf_setClaim _ _ _ _ internal, if_pos rfl]
  rw [b.claim_of_busy w a busy]
  refine Bus.grant_claims _ w a (Or.inl ⟨⟨a, 0⟩, ?_, rfl⟩)
  cases w <;> exact claimed

/-- Staging an event leaves the access in progress as it is. -/
theorem Bus.stage_port_of_busy (b : Bus) (now : Time) (e : EventBody) (busy : b.port.isSome = true) :
    (b.stage now e).port = b.port := by
  simp only [Bus.stage, Bus.ringStart]
  split
  · split
    · exact Bus.claim_port_of_busy _ _ _ busy
    · rfl
  · rfl

theorem Bus.portIs_iff (b : Bus) (w : Claimant) : b.portIs w = true ↔ b.port.map (·.who) = some w := by
  cases h : b.port <;> simp [Bus.portIs, h]

theorem Bus.busy_of_portIs (b : Bus) (w : Claimant) (h : b.portIs w = true) : b.port.isSome = true :=
  Option.isSome_of_any h

/-! ## The Reader on the bus -/

section Window

variable (b : Bus) (w : Window) (window : windowOf b.windows .outbox = some w)
include window

/-- A fetch starts: the Reader is FETCHING and claims the record's slot (R130). -/
theorem Bus.fetchStart_starts (hosts : Nat) (idle : b.outbox.state = .idle)
    (outstanding : b.outbox.shadow ≠ b.outbox.consumer) (room : hosts < 4) :
    (b.fetchStart hosts).outbox = { b.outbox with state := .fetching } ∧
      Claims (b.fetchStart hosts) .outbox (fetchAccess w b.outbox) := by
  have starts : b.fetchStart hosts =
      { b with outbox := { b.outbox with state := .fetching } }.claim .outbox (fetchAccess w b.outbox) := by
    simp [Bus.fetchStart, window, idle, outstanding, Config.hostAllotment, room]
  rw [starts]
  exact ⟨by simp, Bus.claim_claims _ _ _ (by decide)⟩

/-- The Reader after a chance to fetch: FETCHING when R130's conditions hold, else IDLE still. -/
theorem Bus.fetchStart_outbox (hosts : Nat) (idle : b.outbox.state = .idle) :
    (b.fetchStart hosts).outbox = { b.outbox with
      state := if b.outbox.shadow ≠ b.outbox.consumer ∧ hosts < 4 then .fetching else .idle } := by
  split
  · next starts => exact (b.fetchStart_starts w window hosts idle starts.1 starts.2).1
  · next waits =>
    have stays : b.fetchStart hosts = b := by
      have allotment : Config.hostAllotment = 4 := rfl
      simp only [Bus.fetchStart, window, allotment]
      exact if_neg (by simpa [idle] using waits)
    rw [stays, ← idle]

/-- In a completion event the Reader claims its consumer write before the port is released (R131). -/
theorem Bus.claimConsumer_release (busy : b.port.isSome = true) :
    b.claimConsumer.release.outbox = b.outbox ∧ b.claimConsumer.release.ring = b.ring ∧
      Claims b.claimConsumer.release .outbox (consumerWrite w b.outbox) := by
  have claims : b.claimConsumer = b.claim .outbox (consumerWrite w b.outbox) := by
    simp only [Bus.claimConsumer, window]
  rw [claims]
  exact ⟨by simp, by simp, b.claim_release_claims _ _ (by decide) busy⟩

/-- The consumer index advances, and its write is claimed (R131). -/
theorem Bus.advanceConsumer_spec (busy : b.port.isSome = true) :
    b.advanceConsumer.outbox = { b.outbox with
      consumer := nextIndex (outboxCapacity w) b.outbox.consumer, state := .writing } ∧
    b.advanceConsumer.ring = b.ring ∧
    Claims b.advanceConsumer .outbox (wordWrite (w.first + 2) (nextIndex (outboxCapacity w) b.outbox.consumer)) := by
  simp only [Bus.advanceConsumer, window]
  exact Bus.claimConsumer_release _ w window busy

/-- A discarded completion advances nothing, and the consumer write is claimed (R128). -/
theorem Bus.outboxDiscarded_spec (busy : b.port.isSome = true) :
    b.outboxDiscarded.outbox = { b.outbox with discard := false } ∧ b.outboxDiscarded.ring = b.ring ∧
      Claims b.outboxDiscarded .outbox (consumerWrite w b.outbox) :=
  Bus.claimConsumer_release { b with outbox := { b.outbox with discard := false } } w window busy

end Window

/-! ## A fetched record (R131) -/

theorem hostClass_eq_none_iff (x : Byte) : hostClass x = none ↔ ¬ (x = 1 ∨ x = 2) := by
  unfold hostClass
  split <;> simp_all

theorem exists_hostClass (x : Byte) (h : x = 1 ∨ x = 2) : ∃ c, hostClass x = some c :=
  Option.ne_none_iff_exists'.mp fun unknown => (hostClass_eq_none_iff x).mp unknown h

/-- A record of class ALERT or INFO is judged by its length. -/
theorem judgeRecord_of_class (r : List Byte) (c : Class) (class_ : hostClass (r.getD 0 0) = some c) :
    judgeRecord r = if 1 ≤ (r.getD 1 0).toNat ∧ (r.getD 1 0).toNat ≤ 24 then .ok c else .error true := by
  simp only [judgeRecord, class_, inRange, Bool.and_eq_true, decide_eq_true_eq]

/-- A record of another class is bad, whatever its length. -/
theorem judgeRecord_of_no_class (r : List Byte) (class_ : hostClass (r.getD 0 0) = none) :
    judgeRecord r = .error false := by
  simp only [judgeRecord, class_]

variable (s : State) (r : List Byte)

theorem State.takeRecord_of_ok (c : Class) (valid : judgeRecord r = .ok c) :
    s.takeRecord r = { s with queue := joinHost s.queue (hostContent r s.bus.outbox.consumer s.now) c } := by
  simp only [State.takeRecord, valid]

theorem State.takeRecord_of_error (lengthBad : Bool) (bad : judgeRecord r = .error lengthBad) :
    s.takeRecord r = s.stage (.outboxBad s.bus.outbox.consumer (recordRef r) lengthBad) := by
  simp only [State.takeRecord, bad]

/-- What taking a record makes of the report queue and of the event ring: a valid record joins and stages nothing, a bad
one is staged with its reason, class before length, and leaves the queue. -/
theorem State.takeRecord_spec :
    (∀ c, hostClass (r.getD 0 0) = some c → 1 ≤ (r.getD 1 0).toNat ∧ (r.getD 1 0).toNat ≤ 24 →
      (s.takeRecord r).queue = joinHost s.queue (hostContent r s.bus.outbox.consumer s.now) c ∧
      (s.takeRecord r).bus.ring = s.bus.ring) ∧
    (∀ c, hostClass (r.getD 0 0) = some c → ¬ (1 ≤ (r.getD 1 0).toNat ∧ (r.getD 1 0).toNat ≤ 24) →
      (s.takeRecord r).queue = s.queue ∧
      (s.takeRecord r).bus.ring = (s.bus.stage s.now (.outboxBad s.bus.outbox.consumer (recordRef r) true)).ring) ∧
    (hostClass (r.getD 0 0) = none →
      (s.takeRecord r).queue = s.queue ∧
      (s.takeRecord r).bus.ring = (s.bus.stage s.now (.outboxBad s.bus.outbox.consumer (recordRef r) false)).ring) := by
  refine ⟨fun c class_ length => ?_, fun c class_ length => ?_, fun class_ => ?_⟩
  · rw [s.takeRecord_of_ok r c ((judgeRecord_of_class r c class_).trans (if_pos length))]
    exact ⟨rfl, rfl⟩
  · rw [s.takeRecord_of_error r true ((judgeRecord_of_class r c class_).trans (if_neg length))]
    exact ⟨rfl, rfl⟩
  · rw [s.takeRecord_of_error r false (judgeRecord_of_no_class r class_)]
    exact ⟨rfl, rfl⟩

/-- Taking a record leaves the Reader, the window table and the access in progress. -/
theorem State.takeRecord_frame (busy : s.bus.port.isSome = true) :
    SameOutside [.queue, .bus] s (s.takeRecord r) ∧ (s.takeRecord r).bus.outbox = s.bus.outbox ∧
    (s.takeRecord r).bus.windows = s.bus.windows ∧ (s.takeRecord r).bus.port.isSome = true := by
  cases judged : judgeRecord r with
  | ok c =>
    rw [s.takeRecord_of_ok r c judged]
    exact ⟨fun p hp => by cases p <;> simp_all [Part.same], rfl, rfl, busy⟩
  | error lengthBad =>
    rw [s.takeRecord_of_error r lengthBad judged]
    exact ⟨fun p hp => by cases p <;> simp_all [Part.same], by simp, by simp,
      by rw [State.stage, Bus.stage_port_of_busy _ _ _ busy]; exact busy⟩

/-! ## The commands of the Reader -/

/-- Work on the memory side alone changes nothing else. -/
theorem sameOutside_bus (b : Bus) : SameOutside [.bus] s { s with bus := b } := by
  intro p hp
  cases p <;> simp_all [Part.same]

theorem SameOutside.modBus {l : List Part} {s t : State} (h : SameOutside l s t) (f : Bus → Bus) (bus : .bus ∈ l) :
    SameOutside l s (t.modBus f) := by
  intro p hp
  have other : p ≠ .bus := fun same => hp (same ▸ bus)
  have kept := h p hp
  cases p <;> simp_all [Part.same]

variable (runs : s.running = true)
include runs

theorem execOutboxFetchStart_of_running : exec .outboxFetchStart s = .next s.fetchStart :=
  congrArg Host.Outcome.next (s.whenRunning_of_running _ runs)

theorem execOutboxFetchComplete_of_fetching (port : s.bus.portIs .outbox = true) (kept : s.bus.outbox.discard = false)
    (fetching : s.bus.outbox.state = .fetching) :
    exec (.outboxFetchComplete r) s = .next ((s.takeRecord r).modBus Bus.advanceConsumer) := by
  simp [exec, execOutboxFetchComplete, s.whenRunning_of_running _ runs, port, kept, fetching]

theorem execOutboxConsumerWriteComplete_of_writing (port : s.bus.portIs .outbox = true)
    (kept : s.bus.outbox.discard = false) (writing : s.bus.outbox.state = .writing) :
    exec .outboxConsumerWriteComplete s =
      .next (((s.modBus fun b => { b with outbox := { b.outbox with state := .idle } }).fetchStart).modBus Bus.release) := by
  simp [exec, execOutboxConsumerWriteComplete, s.whenRunning_of_running _ runs, port, kept, writing]

/-- Either completion, of an access that an apply has discarded (R128). -/
theorem exec_outbox_completion_of_discard (c : Instr) (row : c = .outboxFetchComplete r ∨ c = .outboxConsumerWriteComplete)
    (port : s.bus.portIs .outbox = true) (discard : s.bus.outbox.discard = true) :
    exec c s = .next (s.modBus Bus.outboxDiscarded) := by
  obtain rfl | rfl := row
  · simp [exec, execOutboxFetchComplete, s.whenRunning_of_running _ runs, port, discard]
  · simp [exec, execOutboxConsumerWriteComplete, s.whenRunning_of_running _ runs, port, discard]

/-! ## The four clauses of the statement -/

variable (w : Window) (window : windowOf s.bus.windows .outbox = some w)
include window

theorem outboxFetchStart_starts (idle : s.bus.outbox.state = .idle)
    (outstanding : s.bus.outbox.shadow ≠ s.bus.outbox.consumer) (room : hostEntries s.queue < 4) :
    ∃ t, exec .outboxFetchStart s = .next t ∧ SameOutside [.bus] s t ∧
      t.bus.outbox = { s.bus.outbox with state := .fetching } ∧ Claims t.bus .outbox (fetchAccess w s.bus.outbox) := by
  obtain ⟨outbox, claims⟩ := s.bus.fetchStart_starts w window _ idle outstanding room
  exact ⟨_, execOutboxFetchStart_of_running s runs, sameOutside_bus s _, outbox, claims⟩

/-- A fetch completion, with the record's part of it left to `State.takeRecord`. -/
theorem outboxFetchComplete_advances (port : s.bus.portIs .outbox = true) (kept : s.bus.outbox.discard = false)
    (fetching : s.bus.outbox.state = .fetching) :
    ∃ t, exec (.outboxFetchComplete r) s = .next t ∧ SameOutside [.queue, .bus] s t ∧
      t.bus.outbox = { s.bus.outbox with
        consumer := nextIndex (outboxCapacity w) s.bus.outbox.consumer, state := .writing } ∧
      t.queue = (s.takeRecord r).queue ∧ t.bus.ring = (s.takeRecord r).bus.ring ∧
      Claims t.bus .outbox (wordWrite (w.first + 2) (nextIndex (outboxCapacity w) s.bus.outbox.consumer)) := by
  obtain ⟨frame, outbox, windows, busy⟩ := s.takeRecord_frame r (s.bus.busy_of_portIs _ port)
  obtain ⟨advanced, ring, claims⟩ := (s.takeRecord r).bus.advanceConsumer_spec w (windows ▸ window) busy
  rw [outbox] at advanced claims
  exact ⟨_, execOutboxFetchComplete_of_fetching s r runs port kept fetching, frame.modBus _ (by decide), advanced,
    rfl, ring, claims⟩

theorem outboxConsumerWriteComplete_fetches_again (port : s.bus.portIs .outbox = true)
    (kept : s.bus.outbox.discard = false) (writing : s.bus.outbox.state = .writing) :
    ∃ t, exec .outboxConsumerWriteComplete s = .next t ∧ SameOutside [.bus] s t ∧
      t.bus.outbox = { s.bus.outbox with
        state := if s.bus.outbox.shadow ≠ s.bus.outbox.consumer ∧ hostEntries s.queue < 4 then .fetching else .idle } := by
  refine ⟨_, execOutboxConsumerWriteComplete_of_writing s runs port kept writing, sameOutside_bus s _, ?_⟩
  exact (Bus.release_frame _).2.2.2.trans
    (Bus.fetchStart_outbox { s.bus with outbox := { s.bus.outbox with state := .idle } } w window _ rfl)

theorem outbox_completion_discarded (c : Instr) (row : c = .outboxFetchComplete r ∨ c = .outboxConsumerWriteComplete)
    (port : s.bus.portIs .outbox = true) (discard : s.bus.outbox.discard = true) :
    ∃ t, exec c s = .next t ∧ SameOutside [.bus] s t ∧ t.bus.ring = s.bus.ring ∧
      t.bus.outbox = { s.bus.outbox with discard := false } ∧ Claims t.bus .outbox (consumerWrite w s.bus.outbox) := by
  obtain ⟨outbox, ring, claims⟩ := s.bus.outboxDiscarded_spec w window (s.bus.busy_of_portIs _ port)
  exact ⟨_, exec_outbox_completion_of_discard s r runs c row port discard, sameOutside_bus s _, ring, outbox, claims⟩

end Sys2Proof.Machine

namespace Sys2Proof.Machine

/-- Settles O50: a start by R130's conditions, a completion by the record's judgement and the Reader's advance, the write's
completion by the next chance to fetch, and a discarded completion by its claim. -/
theorem outboxRecordsFetchedAndTaken : Obligations.OutboxRecordsFetchedAndTaken := by
  intro s w runs window
  refine ⟨fun idle outstanding room => outboxFetchStart_starts s runs w window idle outstanding room,
    fun rec port kept fetching _ _ => ?_, fun port kept writing => ?_, fun port discard _ c rec row =>
      outbox_completion_discarded s rec runs w window c row ((s.bus.portIs_iff _).mpr port) discard⟩
  · obtain ⟨t, next, frame, outbox, queue, ring, claims⟩ :=
      outboxFetchComplete_advances s rec runs w window ((s.bus.portIs_iff _).mpr port) kept fetching
    obtain ⟨valid, lengthBad, classBad⟩ := s.takeRecord_spec rec
    rw [← queue, ← ring] at valid lengthBad classBad
    have alert : rec.getD 0 0 = 1 → hostClass (rec.getD 0 0) = some .alert := fun h => by rw [h]; rfl
    have info : rec.getD 0 0 = 2 → hostClass (rec.getD 0 0) = some .info := fun h => by rw [h]; rfl
    have unknown := (hostClass_eq_none_iff (rec.getD 0 0)).mpr
    refine ⟨t, next, frame, outbox, fun h length => (valid _ (alert h) length).1,
      fun h length => (valid _ (info h) length).1, fun bad => ?_, claims, fun h length => ?_,
      fun h => (classBad (unknown (not_or.mpr h))).2, fun h length => ?_⟩
    · by_cases h : rec.getD 0 0 = 1 ∨ rec.getD 0 0 = 2
      · obtain ⟨c, class_⟩ := exists_hostClass _ h
        exact (lengthBad c class_ (bad.resolve_left fun other => not_or.mpr other h)).1
      · exact (classBad (unknown h)).1
    · obtain ⟨c, class_⟩ := exists_hostClass _ h
      exact (valid c class_ length).2
    · obtain ⟨c, class_⟩ := exists_hostClass _ h
      exact (lengthBad c class_ length).2
  · obtain ⟨t, next, frame, outbox⟩ := outboxConsumerWriteComplete_fetches_again s runs w window
      ((s.bus.portIs_iff _).mpr port) kept writing
    exact ⟨t, next, frame, by rw [outbox], by rw [outbox], by rw [outbox]⟩

end Sys2Proof.Machine
end
